-- ==== Sys2Proof/Word.lean ====
section
/-! DEFINITION. The widths of the block's values (00_scope.md R10: every field is unsigned, bit 0 is the least significant). -/

namespace Sys2Proof

/-- A register word, write data or read data (20_memory.md R49). -/
abbrev Word := BitVec 32

/-- An output byte (R49), and a channel intensity (10_state.md R16). -/
abbrev Byte := BitVec 8

/-- A pixel cell, red in bits 23:16, green in 15:8, blue in 7:0 (10_state.md R16). -/
abbrev Pixel := BitVec 24

/-- A byte offset within the 32-byte register window (30_encoding.md R65). -/
abbrev Offset := BitVec 5

/-- The 38-bit transaction word: WE in bit 37, OFF in 36:32, DATA in 31:0 (30_encoding.md R65). -/
abbrev Txn := BitVec 38

end Sys2Proof
end

