-- ==== Sys2Proof/Syntax.lean ====
section
/-! DEFINITION. The transactions of the host port, one constructor per row of spec/opcode_table.json. -/

namespace Sys2Proof

/-- A host transaction. A write carries its whole 32-bit DATA, used or ignored (30_encoding.md R65, R68); a read carries no data, since
its DATA is ignored (R72). The reserved and misaligned forms carry the raw offset the host named (R74). -/
inductive Instr where
  /-- RD_CTRL, 43_status_registers.md R120. -/
  | rdCtrl
  /-- WR_CTRL, 40_frame_store.md R80. -/
  | wrCtrl (data : Word)
  /-- RD_STATUS, R121. -/
  | rdStatus
  /-- WR_STATUS, R122. -/
  | wrStatus (data : Word)
  /-- RD_POS, R83. -/
  | rdPos
  /-- WR_POS, R82. -/
  | wrPos (data : Word)
  /-- RD_PIXEL, R85. -/
  | rdPixel
  /-- WR_PIXEL, R84. -/
  | wrPixel (data : Word)
  /-- RD_FRAME_COUNT, R123. -/
  | rdFrameCount
  /-- WR_FRAME_COUNT, R124. -/
  | wrFrameCount (data : Word)
  /-- RD_PAD_LEN, R125. -/
  | rdPadLen
  /-- WR_PAD_LEN, R126. -/
  | wrPadLen (data : Word)
  /-- RD_RSVD, R127: `off` is 0x18 or 0x1C. -/
  | rdRsvd (off : Offset)
  /-- WR_RSVD, R128: `off` is 0x18 or 0x1C. -/
  | wrRsvd (off : Offset) (data : Word)
  /-- RD_MIS1, R129: bit 0 of `off` is 1. -/
  | rdMis1 (off : Offset)
  /-- WR_MIS1, R130: bit 0 of `off` is 1. -/
  | wrMis1 (off : Offset) (data : Word)
  /-- RD_MIS2, R129: bits 1:0 of `off` are 10. -/
  | rdMis2 (off : Offset)
  /-- WR_MIS2, R130: bits 1:0 of `off` are 10. -/
  | wrMis2 (off : Offset) (data : Word)
  deriving DecidableEq, Repr

/-- The row's mnemonic in spec/opcode_table.json. -/
def Instr.mnemonic : Instr → String
  | .rdCtrl => "RD_CTRL"
  | .wrCtrl _ => "WR_CTRL"
  | .rdStatus => "RD_STATUS"
  | .wrStatus _ => "WR_STATUS"
  | .rdPos => "RD_POS"
  | .wrPos _ => "WR_POS"
  | .rdPixel => "RD_PIXEL"
  | .wrPixel _ => "WR_PIXEL"
  | .rdFrameCount => "RD_FRAME_COUNT"
  | .wrFrameCount _ => "WR_FRAME_COUNT"
  | .rdPadLen => "RD_PAD_LEN"
  | .wrPadLen _ => "WR_PAD_LEN"
  | .rdRsvd _ => "RD_RSVD"
  | .wrRsvd _ _ => "WR_RSVD"
  | .rdMis1 _ => "RD_MIS1"
  | .wrMis1 _ _ => "WR_MIS1"
  | .rdMis2 _ => "RD_MIS2"
  | .wrMis2 _ _ => "WR_MIS2"

/-- WE: whether the transaction is a write (30_encoding.md R65). -/
def Instr.isWrite : Instr → Bool
  | .rdCtrl | .rdStatus | .rdPos | .rdPixel | .rdFrameCount | .rdPadLen | .rdRsvd _ | .rdMis1 _ | .rdMis2 _ => false
  | .wrCtrl _ | .wrStatus _ | .wrPos _ | .wrPixel _ | .wrFrameCount _ | .wrPadLen _ | .wrRsvd _ _ | .wrMis1 _ _ | .wrMis2 _ _ => true

end Sys2Proof
end

