-- ==== Sys2Proof/WellFormed.lean ====
section
/-! DEFINITION. Which terms of Instr stand for a transaction: the reserved and misaligned forms name an offset of their own class. -/

namespace Sys2Proof

/-- Offsets 0x18 and 0x1C hold no register (10_state.md R31). -/
def Offset.isReserved (off : Offset) : Bool := off == 0x18#5 || off == 0x1C#5

/-- The first misaligned class of the opcode table: OFF[0] = 1 (30_encoding.md R67). -/
def Offset.isOdd (off : Offset) : Bool := off.getLsbD 0

/-- The second misaligned class of the opcode table: OFF[1:0] = 10 (R67). -/
def Offset.isHalf (off : Offset) : Bool := !off.getLsbD 0 && off.getLsbD 1

/-- The check on a term; every operand other than a raw offset is legal at every value (R68). -/
def Instr.wellFormed : Instr → Bool
  | .rdCtrl | .rdStatus | .rdPos | .rdPixel | .rdFrameCount | .rdPadLen => true
  | .wrCtrl _ | .wrStatus _ | .wrPos _ | .wrPixel _ | .wrFrameCount _ | .wrPadLen _ => true
  | .rdRsvd off => Offset.isReserved off
  | .wrRsvd off _ => Offset.isReserved off
  | .rdMis1 off => Offset.isOdd off
  | .wrMis1 off _ => Offset.isOdd off
  | .rdMis2 off => Offset.isHalf off
  | .wrMis2 off _ => Offset.isHalf off

/-- `wellFormed` as a proposition. -/
abbrev Instr.WellFormed (i : Instr) : Prop := i.wellFormed = true

end Sys2Proof
end

