-- ==== Sys2Proof/Decode.lean ====
section
/-! DEFINITION. The decoder of transaction words (30_encoding.md R65, R67), the opcode table as data, and the encoder. -/

namespace Sys2Proof

/-- WE, bit 37 (R65). -/
def fieldWE (T : Txn) : Bool := T.getLsbD 37

/-- OFF, bits 36:32 (R65). -/
def fieldOFF (T : Txn) : Offset := T.extractLsb' 32 5

/-- DATA, bits 31:0 (R65). -/
def fieldDATA (T : Txn) : Word := T.extractLsb' 0 32

/-- The rows of R67, which class an offset by what it reaches; the two halves of its first row are the table's MIS1 and MIS2. -/
inductive Slot where
  | mis1 | mis2 | rsvd | ctrl | status | pos | pixel | frameCount | padLen
  deriving DecidableEq, Repr

/-- The class of an offset, checked in R67's order; the last line is reached by 0x14 alone. -/
def slotOf (off : Offset) : Slot :=
  if Offset.isOdd off then .mis1
  else if Offset.isHalf off then .mis2
  else if Offset.isReserved off then .rsvd
  else if off == 0x00#5 then .ctrl
  else if off == 0x04#5 then .status
  else if off == 0x08#5 then .pos
  else if off == 0x0C#5 then .pixel
  else if off == 0x10#5 then .frameCount
  else .padLen

/-- The read of a class (R67, WE = 0). DATA is ignored (R72). -/
def decodeRead (off : Offset) : Instr :=
  match slotOf off with
  | .mis1 => .rdMis1 off
  | .mis2 => .rdMis2 off
  | .rsvd => .rdRsvd off
  | .ctrl => .rdCtrl
  | .status => .rdStatus
  | .pos => .rdPos
  | .pixel => .rdPixel
  | .frameCount => .rdFrameCount
  | .padLen => .rdPadLen

/-- The write of a class (R67, WE = 1). -/
def decodeWrite (off : Offset) (data : Word) : Instr :=
  match slotOf off with
  | .mis1 => .wrMis1 off data
  | .mis2 => .wrMis2 off data
  | .rsvd => .wrRsvd off data
  | .ctrl => .wrCtrl data
  | .status => .wrStatus data
  | .pos => .wrPos data
  | .pixel => .wrPixel data
  | .frameCount => .wrFrameCount data
  | .padLen => .wrPadLen data

/-- The decoder, total on all 2^38 words (R67). -/
def decode (T : Txn) : Instr :=
  if fieldWE T then decodeWrite (fieldOFF T) (fieldDATA T) else decodeRead (fieldOFF T)

/-- Why a written form is no transaction word. -/
inductive Reject where
  /-- Bits 39:38 of the ten-digit spelling are not zero (R66). -/
  | highBitsSet
  /-- Not the five bytes that ten hexadecimal digits spell (R66, R73: every transaction has one length). -/
  | notFiveBytes (n : Nat)
  deriving DecidableEq, Repr

/-- The decoder of the ten-digit hexadecimal spelling, whose bits 39:38 are zero (R66; log 13). -/
def decodeSpelled (w : BitVec 40) : Except Reject Instr :=
  if w.extractLsb' 38 2 = 0#2 then .ok (decode (w.setWidth 38)) else .error .highBitsSet

/-- The decoder on any bytes: the five bytes of the spelling, the one with WE and OFF first (R66). -/
def decodeBytes : List Byte → Except Reject Instr
  | [b4, b3, b2, b1, b0] => decodeSpelled (b4 ++ b3 ++ b2 ++ b1 ++ b0)
  | bs => .error (.notFiveBytes bs.length)

/-- The instruction the decoder reads from a word numbered as spec/opcode_table.json numbers it. A transaction is one 38-bit word, so
bits above 37 must be zero, whatever `nbits` is (log 13). -/
def decodeTableWord (_nbits w : Nat) : Option Instr :=
  if w < 2 ^ 40 then (decodeSpelled (BitVec.ofNat 40 w)).toOption else none

/-- One row of spec/opcode_table.json: a word T is of the row when T under the mask is the match. -/
structure OpcodeRow where
  mnemonic : String
  pat : Txn
  mask : Txn
  deriving DecidableEq, Repr

/-- Whether the row matches a word. -/
def OpcodeRow.hits (r : OpcodeRow) (T : Txn) : Bool := T &&& r.mask == r.pat

/-- spec/opcode_table.json, row by row: mnemonic, match, mask. -/
def opcodeTable : List OpcodeRow := [
  ⟨"RD_CTRL", 0x0000000000#38, 0x3F00000000#38⟩,
  ⟨"WR_CTRL", 0x2000000000#38, 0x3F00000000#38⟩,
  ⟨"RD_STATUS", 0x0400000000#38, 0x3F00000000#38⟩,
  ⟨"WR_STATUS", 0x2400000000#38, 0x3F00000000#38⟩,
  ⟨"RD_POS", 0x0800000000#38, 0x3F00000000#38⟩,
  ⟨"WR_POS", 0x2800000000#38, 0x3F00000000#38⟩,
  ⟨"RD_PIXEL", 0x0C00000000#38, 0x3F00000000#38⟩,
  ⟨"WR_PIXEL", 0x2C00000000#38, 0x3F00000000#38⟩,
  ⟨"RD_FRAME_COUNT", 0x1000000000#38, 0x3F00000000#38⟩,
  ⟨"WR_FRAME_COUNT", 0x3000000000#38, 0x3F00000000#38⟩,
  ⟨"RD_PAD_LEN", 0x1400000000#38, 0x3F00000000#38⟩,
  ⟨"WR_PAD_LEN", 0x3400000000#38, 0x3F00000000#38⟩,
  ⟨"RD_RSVD", 0x1800000000#38, 0x3B00000000#38⟩,
  ⟨"WR_RSVD", 0x3800000000#38, 0x3B00000000#38⟩,
  ⟨"RD_MIS1", 0x0100000000#38, 0x2100000000#38⟩,
  ⟨"WR_MIS1", 0x2100000000#38, 0x2100000000#38⟩,
  ⟨"RD_MIS2", 0x0200000000#38, 0x2300000000#38⟩,
  ⟨"WR_MIS2", 0x2200000000#38, 0x2300000000#38⟩]

/-- The word with the three fields of R65. -/
def txnWord (we : Bool) (off : Offset) (data : Word) : Txn := BitVec.ofBool we ++ off ++ data

/-- The encoder (R65, R67): a read's DATA is its canonical value 0. -/
def encode : Instr → Txn
  | .rdCtrl => txnWord false 0x00#5 0#32
  | .wrCtrl data => txnWord true 0x00#5 data
  | .rdStatus => txnWord false 0x04#5 0#32
  | .wrStatus data => txnWord true 0x04#5 data
  | .rdPos => txnWord false 0x08#5 0#32
  | .wrPos data => txnWord true 0x08#5 data
  | .rdPixel => txnWord false 0x0C#5 0#32
  | .wrPixel data => txnWord true 0x0C#5 data
  | .rdFrameCount => txnWord false 0x10#5 0#32
  | .wrFrameCount data => txnWord true 0x10#5 data
  | .rdPadLen => txnWord false 0x14#5 0#32
  | .wrPadLen data => txnWord true 0x14#5 data
  | .rdRsvd off => txnWord false off 0#32
  | .wrRsvd off data => txnWord true off data
  | .rdMis1 off => txnWord false off 0#32
  | .wrMis1 off data => txnWord true off data
  | .rdMis2 off => txnWord false off 0#32
  | .wrMis2 off data => txnWord true off data

/-- The ten-digit hexadecimal spelling of an instruction's word (R66). -/
def encodeSpelled (i : Instr) : BitVec 40 := (encode i).setWidth 40

/-- The five bytes of the spelling, the one with WE and OFF first (R66). -/
def encodeBytes (i : Instr) : List Byte :=
  let w := encodeSpelled i
  [w.extractLsb' 32 8, w.extractLsb' 24 8, w.extractLsb' 16 8, w.extractLsb' 8 8, w.extractLsb' 0 8]

end Sys2Proof
end

