-- ==== Sys2Proof/Config.lean ====
section
/-! DEFINITION. What is fixed for one machine: the geometry and lengths the spec gives, the two parameters it leaves open, and the free value of SNAP at reset. -/

namespace Sys2Proof.Config

/-- 32 columns (00_scope.md R4). -/
abbrev cols : Nat := 32

/-- 8 rows (R4). -/
abbrev rows : Nat := 8

/-- 256 pixels (R4). -/
abbrev npix : Nat := 256

/-- Bytes of the physical payload (R5). -/
abbrev physLen : Nat := 768

/-- Bytes of the encoded payload (R5). -/
abbrev encLen : Nat := 12288

/-- DESIGN CHOICE (safe, log 1): the build-time choice of PAD_LEN as one of its 65535 legal values, of which nothing is known. -/
opaque padChoice : Fin 65535

/-- PAD_LEN, any value in 1..65535 (R6, 93_implementation_defined.md U1; log 1). -/
def padLen : Nat := padChoice.val + 1

/-- DESIGN CHOICE (safe, log 2): which 32-byte window of the platform's address space is the block's; nothing is known of it. -/
opaque windowIndex : Nat

/-- REG_BASE, 32-byte aligned (R7, U2; log 2). -/
def regBase : Nat := 32 * windowIndex

/-- DESIGN CHOICE (safe, log 3): the unspecified content of SNAP after reset number `n`, cell by cell (10_state.md R17, U3). -/
opaque snapAtReset : Nat → Nat → Pixel

end Sys2Proof.Config
end

