-- ==== Sys2Proof/Machine/State.lean ====
section
/-! DEFINITION. The state of the block (10_state.md R13), with what a claim observes and what the environment will do next, and the state after reset. -/

namespace Sys2Proof.Machine

/-- An array of 256 pixel cells, the shape of PIX and of SNAP (10_state.md R16, R17; log 10). Cell (c, r) is element 8c + r. -/
abbrev Cells := Vector Pixel Config.npix

/-- Every cell Black, 0x000000 (R16). -/
def Cells.black : Cells := Vector.replicate Config.npix 0#24

/-- The position register: two unsigned bytes, in range or not (R23). -/
structure Pos where
  col : Byte
  row : Byte
  deriving DecidableEq, Repr

/-- One choice of the environment, which one step of the machine takes (00_scope.md R12; log 4). -/
inductive Input where
  /-- The host performs the transaction this word stands for (30_encoding.md R65). -/
  | host (txn : Txn)
  /-- The sink's choice: `true` when it accepts a byte in this step, `false` when it does not (42_protocol_encoder.md R107). -/
  | sink (accepts : Bool)
  /-- The platform asserts the reset input (70_reset_and_hazards.md R161; log 7). -/
  | rst
  deriving DecidableEq, Repr

/-- Why the machine could stop with a fault: never. The block raises no exception (60_exceptions.md R140), so the type has no
constructor (safe, log 20). -/
inductive Fault where
  deriving DecidableEq, Repr

/-- Why a transaction could be turned away. -/
inductive Refusal where
  /-- An arm of exec that has no meaning yet, by its mnemonic; no arm raises it (safe). -/
  | notModelled (mnemonic : String)
  deriving DecidableEq, Repr

/-- The state. `pix` to `pos` are the spec's elements (R13); `out` and `reads` are what a claim observes (R32; log 6); `inputs` and
`freeCount` are the model's own (log 4, log 3). -/
structure State where
  /-- PIX, the pixel store (R16). -/
  pix : Cells
  /-- SNAP, the frame snapshot (R17). -/
  snap : Cells
  /-- CUR, the index of the next byte to emit (R18; log 9). -/
  cur : Nat
  /-- BUSY, a frame is in flight (R19). -/
  busy : Bool
  /-- SD, the sticky flag START_DROPPED (R20). -/
  sd : Bool
  /-- BA, the sticky flag BAD_ACCESS (R21). -/
  ba : Bool
  /-- FRAME_COUNT, the animation-phase counter (R22). -/
  frameCount : Word
  /-- POS, the position register (R23). -/
  pos : Pos
  /-- OUT, the bytes handed to the sink since reset, oldest first (R32). -/
  out : List Byte
  /-- The RDATA responses of the host's reads since reset, oldest first (R32, R65). -/
  reads : List Word
  /-- The environment's coming choices, the next one first (log 4). -/
  inputs : List Input
  /-- How many resets have happened in this state sequence: it indexes SNAP's free value (log 3). -/
  freeCount : Nat
  deriving DecidableEq, Repr

/-- SNAP after reset number `n`: unspecified, so a free value in every cell (R17, 93_implementation_defined.md U3; log 3). -/
def Cells.unspecified (n : Nat) : Cells := Vector.ofFn fun k => Config.snapAtReset n k.val

/-- The machine right after reset (70_reset_and_hazards.md R160): OUT is empty, and nothing is placed by the environment. -/
def State.reset : State where
  pix := Cells.black
  snap := Cells.unspecified 0
  cur := 0
  busy := false
  sd := false
  ba := false
  frameCount := 0#32
  pos := ⟨0#8, 0#8⟩
  out := []
  reads := []
  inputs := []
  freeCount := 0

end Sys2Proof.Machine
end

