-- ==== Sys2Proof/Machine/Operands.lean ====
section
/-! DEFINITION. The fields of DATA each write uses (30_encoding.md R68), and RDATA as each read assembles it (R69). -/

namespace Sys2Proof.Machine

/-- CTRL.START, DATA[0] (R68, 10_state.md R25). -/
def dataStart (data : Word) : Bool := data.getLsbD 0

/-- CTRL.CLEAR, DATA[1] (R68, R25). -/
def dataClear (data : Word) : Bool := data.getLsbD 1

/-- STATUS write, DATA[1]: clear SD (R68, R26). -/
def dataClrSd (data : Word) : Bool := data.getLsbD 1

/-- STATUS write, DATA[2]: clear BA (R68, R26). -/
def dataClrBa (data : Word) : Bool := data.getLsbD 2

/-- POS write: COL is DATA[7:0] and ROW is DATA[15:8] (R68, R27). -/
def dataPos (data : Word) : Pos := ⟨data.extractLsb' 0 8, data.extractLsb' 8 8⟩

/-- PIXEL write: R is DATA[23:16], G is DATA[15:8], B is DATA[7:0], which is the cell's own layout (R68, R28, R16). -/
def dataPixel (data : Word) : Pixel := data.extractLsb' 16 8 ++ data.extractLsb' 8 8 ++ data.extractLsb' 0 8

/-- RDATA of RD POS, {ROW, COL} zero-extended (R69, R27). -/
def posWord (p : Pos) : Word := (p.row ++ p.col).setWidth 32

/-- RDATA of RD PIXEL for a cell, zero-extended (R69, R28). -/
def pixelWord (v : Pixel) : Word := v.setWidth 32

/-- RDATA of RD PAD_LEN, PAD_LEN[15:0] zero-extended (R69, R30). -/
def padLenWord (pad : Nat) : Word := (BitVec.ofNat 16 pad).setWidth 32

/-- A byte lane of a register word, as a byte-wide platform adapter presents it: lane k carries bits 8k+7 to 8k (20_memory.md R44). -/
def byteLane (w : Word) (k : Nat) : Byte := w.extractLsb' (8 * k) 8

/-- The platform byte address of lane k of the register at an offset (R44, 00_scope.md R7). -/
def laneAddress (off : Offset) (k : Nat) : Nat := Config.regBase + off.toNat + k

/-- The word whose four lanes are the bytes given, lane 0 first (R44). -/
def wordOfLanes (b0 b1 b2 b3 : Byte) : Word := b3 ++ b2 ++ b1 ++ b0

/-- The offset a platform address has in the window; an address outside the window is not the block's (R52). -/
def windowOffset (addr : Nat) : Option Offset :=
  if Config.regBase ≤ addr ∧ addr < Config.regBase + 32 then some (BitVec.ofNat 5 (addr - Config.regBase)) else none

end Sys2Proof.Machine
end

