-- ==== Sys2Proof/Machine/Ops.lean ====
section
/-! DEFINITION. The operations the meanings share: one update per state element, cell access, the response of a read, the two actions of CTRL, the error event, and reset. -/

namespace Sys2Proof.Machine

/-- `PIX <- p` (00_scope.md R11). -/
def State.setPix (s : State) (p : Cells) : State := { s with pix := p }

/-- `SNAP <- p`. -/
def State.setSnap (s : State) (p : Cells) : State := { s with snap := p }

/-- `CUR <- n`. -/
def State.setCur (s : State) (n : Nat) : State := { s with cur := n }

/-- `BUSY <- b`. -/
def State.setBusy (s : State) (b : Bool) : State := { s with busy := b }

/-- `SD <- b`. -/
def State.setSd (s : State) (b : Bool) : State := { s with sd := b }

/-- `BA <- b`. -/
def State.setBa (s : State) (b : Bool) : State := { s with ba := b }

/-- `FRAME_COUNT <- w`. -/
def State.setFrameCount (s : State) (w : Word) : State := { s with frameCount := w }

/-- `POS <- p`. -/
def State.setPos (s : State) (p : Pos) : State := { s with pos := p }

/-- `Emit(b)`: append a byte to OUT (R11, 10_state.md R32). -/
def State.emitByte (s : State) (b : Byte) : State := { s with out := s.out ++ [b] }

/-- `RDATA <- w`: the one response of a host read (30_encoding.md R65). -/
def State.respond (s : State) (w : Word) : State := { s with reads := s.reads ++ [w] }

/-- The environment's remaining choices. -/
def State.setInputs (s : State) (l : List Input) : State := { s with inputs := l }

/-- A position names a cell iff COL < 32 and ROW < 8 (10_state.md R23). -/
abbrev InRange (c r : Nat) : Prop := c < Config.cols ∧ r < Config.rows

/-- Where cell (c, r) stands in the array: each in-range pair has a place of its own (20_memory.md R42). -/
theorem InRange.index_lt {c r : Nat} (h : InRange c r) : 8 * c + r < Config.npix := by
  obtain ⟨hc, hr⟩ := h
  simp only [Config.cols, Config.rows, Config.npix] at *
  omega

/-- `S[c][r]`; an out-of-range pair names no cell and reads 0 (R42, 40_frame_store.md R85). -/
def readCell (S : Cells) (c r : Nat) : Pixel :=
  if h : InRange c r then S[8 * c + r]'h.index_lt else 0#24

/-- `S[c][r] <- v`; an out-of-range pair names no cell and nothing is written (R42, R84). -/
def writeCell (S : Cells) (c r : Nat) (v : Pixel) : Cells :=
  if h : InRange c r then S.set (8 * c + r) v h.index_lt else S

/-- ClearAction (R81): every cell of PIX becomes Black, in one step. -/
def clearAction (s : State) : State := s.setPix Cells.black

/-- StartRequest (42_protocol_encoder.md R100): dropped while a frame is in flight, else the snapshot is taken and a frame begins. -/
def startRequest (s : State) : State :=
  if s.busy then s.setSd true
  else ((s.setSnap s.pix).setCur 0).setBusy true

/-- The shared effect of the error events EV2, EV3 and EV4 (60_exceptions.md R141): the sticky flag BA is set and nothing else changes.
This is all that stands in the place of an exception: nothing is saved and no control is transferred (R140, R144). -/
def badAccess (s : State) : State := s.setBa true

/-- Reset (70_reset_and_hazards.md R160, R161): every element takes its reset value, SNAP an unspecified one, and OUT, which is counted
since reset, is empty (10_state.md R32). The environment's coming choices stay (log 7). -/
def resetAction (s : State) : State :=
  { State.reset with
    snap := Cells.unspecified (s.freeCount + 1)
    inputs := s.inputs
    freeCount := s.freeCount + 1 }

end Sys2Proof.Machine
end

