-- ==== Sys2Proof/Machine/Flags.lean ====
section
/-! DEFINITION. The three status bits: how STATUS reads and how a write acknowledges the sticky ones (10_state.md R26). -/

namespace Sys2Proof.Machine

/-- RDATA of RD STATUS: {BA, SD, BUSY} zero-extended (30_encoding.md R69, 43_status_registers.md R121). -/
def statusWord (s : State) : Word := (BitVec.ofBool s.ba ++ BitVec.ofBool s.sd ++ BitVec.ofBool s.busy).setWidth 32

/-- The acknowledgement (R122): a 1 in DATA[1] clears SD, a 1 in DATA[2] clears BA, a 0 leaves its flag. -/
def acknowledge (data : Word) (s : State) : State :=
  let s1 := if dataClrSd data then s.setSd false else s
  if dataClrBa data then s1.setBa false else s1

end Sys2Proof.Machine
end

