-- ==== Sys2Proof/Machine/FrameStore.lean ====
section
/-! DEFINITION. The transactions on the pixel store (40_frame_store.md R80 to R85). -/

namespace Sys2Proof.Machine

/-- WR CTRL (R80): the clear first, then the start, which sees the cleared store; DATA[31:2] is ignored. -/
def execWrCtrl (data : Word) (s : State) : Host.Outcome State Fault Refusal :=
  let s1 := if dataClear data then clearAction s else s
  .next (if dataStart data then startRequest s1 else s1)

/-- WR POS (R82): any 8-bit values are stored. -/
def execWrPos (data : Word) (s : State) : Host.Outcome State Fault Refusal :=
  .next (s.setPos (dataPos data))

/-- RD POS (R83). -/
def execRdPos (s : State) : Host.Outcome State Fault Refusal :=
  .next (s.respond (posWord s.pos))

/-- WR PIXEL (R84): an out-of-range position is a silent no-op. -/
def execWrPixel (data : Word) (s : State) : Host.Outcome State Fault Refusal :=
  .next (s.setPix (writeCell s.pix s.pos.col.toNat s.pos.row.toNat (dataPixel data)))

/-- RD PIXEL (R85): reads PIX, never SNAP; an out-of-range position reads 0. -/
def execRdPixel (s : State) : Host.Outcome State Fault Refusal :=
  .next (s.respond (pixelWord (readCell s.pix s.pos.col.toNat s.pos.row.toNat)))

end Sys2Proof.Machine
end

