-- ==== Sys2Proof/Machine/StatusRegs.lean ====
section
/-! DEFINITION. The status, counter, padding, reserved and misaligned transactions (43_status_registers.md R120 to R130). -/

namespace Sys2Proof.Machine

/-- A read that reaches no register: it returns 0 and sets BA (R127, R129). -/
def badRead (s : State) : State := badAccess (s.respond 0#32)

/-- RD CTRL (R120): CTRL holds no state and reads 0. -/
def execRdCtrl (s : State) : Host.Outcome State Fault Refusal := .next (s.respond 0#32)

/-- RD STATUS (R121): no side effect. -/
def execRdStatus (s : State) : Host.Outcome State Fault Refusal := .next (s.respond (statusWord s))

/-- WR STATUS (R122). -/
def execWrStatus (data : Word) (s : State) : Host.Outcome State Fault Refusal := .next (acknowledge data s)

/-- RD FRAME_COUNT (R123). -/
def execRdFrameCount (s : State) : Host.Outcome State Fault Refusal := .next (s.respond s.frameCount)

/-- WR FRAME_COUNT (R124): a write to a read-only register; DATA is ignored. -/
def execWrFrameCount (_data : Word) (s : State) : Host.Outcome State Fault Refusal := .next (badAccess s)

/-- RD PAD_LEN (R125), for the build's PAD_LEN. -/
def execRdPadLen (s : State) : Host.Outcome State Fault Refusal := .next (s.respond (padLenWord Config.padLen))

/-- WR PAD_LEN (R126): a write to a read-only register; DATA is ignored. -/
def execWrPadLen (_data : Word) (s : State) : Host.Outcome State Fault Refusal := .next (badAccess s)

/-- RD at 0x18 or 0x1C (R127). -/
def execRdRsvd (_off : Offset) (s : State) : Host.Outcome State Fault Refusal := .next (badRead s)

/-- WR at 0x18 or 0x1C (R128): DATA is ignored. -/
def execWrRsvd (_off : Offset) (_data : Word) (s : State) : Host.Outcome State Fault Refusal := .next (badAccess s)

/-- RD at an offset with OFF[0] = 1 (R129). -/
def execRdMis1 (_off : Offset) (s : State) : Host.Outcome State Fault Refusal := .next (badRead s)

/-- WR at an offset with OFF[0] = 1 (R130): DATA is ignored. -/
def execWrMis1 (_off : Offset) (_data : Word) (s : State) : Host.Outcome State Fault Refusal := .next (badAccess s)

/-- RD at an offset with OFF[1:0] = 10 (R129). -/
def execRdMis2 (_off : Offset) (s : State) : Host.Outcome State Fault Refusal := .next (badRead s)

/-- WR at an offset with OFF[1:0] = 10 (R130): DATA is ignored. -/
def execWrMis2 (_off : Offset) (_data : Word) (s : State) : Host.Outcome State Fault Refusal := .next (badAccess s)

end Sys2Proof.Machine
end

