-- ==== Sys2Proof/Machine/Dispatch.lean ====
section
/-! DEFINITION. One arm per transaction of the opcode table. -/

namespace Sys2Proof.Machine

def exec (i : Instr) (s : State) : Host.Outcome State Fault Refusal :=
  match i with
  | .rdCtrl => Sys2Proof.Machine.execRdCtrl s
  | .wrCtrl data => Sys2Proof.Machine.execWrCtrl data s
  | .rdStatus => Sys2Proof.Machine.execRdStatus s
  | .wrStatus data => Sys2Proof.Machine.execWrStatus data s
  | .rdPos => Sys2Proof.Machine.execRdPos s
  | .wrPos data => Sys2Proof.Machine.execWrPos data s
  | .rdPixel => Sys2Proof.Machine.execRdPixel s
  | .wrPixel data => Sys2Proof.Machine.execWrPixel data s
  | .rdFrameCount => Sys2Proof.Machine.execRdFrameCount s
  | .wrFrameCount data => Sys2Proof.Machine.execWrFrameCount data s
  | .rdPadLen => Sys2Proof.Machine.execRdPadLen s
  | .wrPadLen data => Sys2Proof.Machine.execWrPadLen data s
  | .rdRsvd off => Sys2Proof.Machine.execRdRsvd off s
  | .wrRsvd off data => Sys2Proof.Machine.execWrRsvd off data s
  | .rdMis1 off => Sys2Proof.Machine.execRdMis1 off s
  | .wrMis1 off data => Sys2Proof.Machine.execWrMis1 off data s
  | .rdMis2 off => Sys2Proof.Machine.execRdMis2 off s
  | .wrMis2 off data => Sys2Proof.Machine.execWrMis2 off data s

end Sys2Proof.Machine
end

