-- ==== Sys2Proof/Machine/Serializer.lean ====
section
/-! DEFINITION. The frame serializer: serpentine order, channel order and the physical payload (41_serializer.md R90 to R97). -/

namespace Sys2Proof.Machine

/-- SerpPos (R90): the grid position of physical pixel p. -/
def serpPos (p : Nat) : Nat × Nat :=
  let col := p / 8
  let j := p % 8
  (col, if col % 2 = 0 then j else 7 - j)

/-- SerpIndex (R91): the physical pixel of an in-range grid position. -/
def serpIndex (col row : Nat) : Nat := 8 * col + (if col % 2 = 0 then row else 7 - row)

/-- The red intensity of a cell (10_state.md R16). -/
def Pixel.red (v : Pixel) : Byte := v.extractLsb' 16 8

/-- The green intensity of a cell (R16). -/
def Pixel.green (v : Pixel) : Byte := v.extractLsb' 8 8

/-- The blue intensity of a cell (R16). -/
def Pixel.blue (v : Pixel) : Byte := v.extractLsb' 0 8

/-- The channels of a pixel in the order they are emitted: green, red, blue (R92). -/
def channel (v : Pixel) : Nat → Byte
  | 0 => Pixel.green v
  | 1 => Pixel.red v
  | _ => Pixel.blue v

/-- PhysByte (R93): the cell's stored values are not changed (R95). -/
def physByte (S : Cells) (i : Nat) : Byte :=
  let at_ := serpPos (i / 3)
  channel (readCell S at_.1 at_.2) (i % 3)

/-- Serialize (R94): the 768 bytes of the physical payload. -/
def serialize (S : Cells) : List Byte := (List.range Config.physLen).map (physByte S)

/-- The pixel array a payload came from, which the decoding law recovers (42_protocol_encoder.md R112). -/
def deserialize (P : List Byte) : Cells :=
  Vector.ofFn fun k =>
    let p := serpIndex (k.val / 8) (k.val % 8)
    P.getD (3 * p + 1) 0#8 ++ P.getD (3 * p) 0#8 ++ P.getD (3 * p + 2) 0#8

end Sys2Proof.Machine
end

