-- ==== Sys2Proof/Machine/ProtocolEncoder.lean ====
section
/-! DEFINITION. The one-wire protocol encoder: symbols, bit groups, the encoded payload, the latch gap, the frame, and the decoding of a frame (42_protocol_encoder.md R101 to R105, R108, R112). -/

namespace Sys2Proof.Machine

/-- FRAME_LEN for a padding length (00_scope.md R6). -/
def frameLen (pad : Nat) : Nat := Config.encLen + pad

/-- Sym (R101): the two bytes of one payload bit. -/
def sym : Bool → List Byte
  | true => [0xFF#8, 0xF0#8]
  | false => [0xF0#8, 0x00#8]

/-- ExpandByte (R102): the eight symbols of a byte, bit 7 first. -/
def expandByte (b : Byte) : List Byte :=
  sym (b.getLsbD 7) ++ sym (b.getLsbD 6) ++ sym (b.getLsbD 5) ++ sym (b.getLsbD 4)
    ++ sym (b.getLsbD 3) ++ sym (b.getLsbD 2) ++ sym (b.getLsbD 1) ++ sym (b.getLsbD 0)

/-- Encode (R103): the encoded payload. -/
def encodePayload (P : List Byte) : List Byte := P.flatMap expandByte

/-- The latch gap (R104): `pad` zero bytes, whatever the data. -/
def latchGap (pad : Nat) : List Byte := List.replicate pad 0#8

/-- Frame (R105): the complete output of one START, for a padding length. -/
def frame (pad : Nat) (S : Cells) : List Byte := encodePayload (serialize S) ++ latchGap pad

/-- OutByte (R108): frame byte n in closed form. -/
def outByte (S : Cells) (n : Nat) : Byte :=
  if Config.encLen ≤ n then 0x00#8
  else
    let i := n / 16
    let j := n % 16 / 2
    let h := n % 2
    if (physByte S i).getLsbD (7 - j) then (if h = 0 then 0xFF#8 else 0xF0#8)
    else (if h = 0 then 0xF0#8 else 0x00#8)

/-- Decode (R112), one payload byte: bit 7 - j is 1 iff frame byte 16i + 2j is 0xFF. -/
def decodedByte (F : List Byte) (i : Nat) : Byte :=
  ((List.range 8).map fun j => if F.getD (16 * i + 2 * j) 0#8 = 0xFF#8 then 1#8 <<< (7 - j) else 0#8).foldl (· + ·) 0#8

/-- Decode (R112): the physical payload that a frame carries. -/
def decodePayload (F : List Byte) : List Byte := (List.range Config.physLen).map (decodedByte F)

/-- The line levels a sink that keeps its duty makes of the bytes, bit 7 of each byte first (20_memory.md R47; log 18). -/
def lineBits (bs : List Byte) : List Bool := bs.flatMap fun b => (List.range 8).map fun k => b.getLsbD (7 - k)

end Sys2Proof.Machine
end

