-- ==== Sys2Proof/Machine/Emitter.lean ====
section
/-! DEFINITION. The emitter's step and when the sink lets it happen (42_protocol_encoder.md R106, R107). -/

namespace Sys2Proof.Machine

/-- EMIT (R106) for a padding length: one byte of the frame goes to the sink, and the last byte ends the frame in the same step. The
byte is computed by OutByte, which R106 and R108 say is the frame's byte CUR (DEDUCED, log 11). -/
def emit (pad : Nat) (s : State) : State :=
  let s1 := s.emitByte (outByte s.snap s.cur)
  if s.cur = frameLen pad - 1 then
    ((s1.setBusy false).setCur 0).setFrameCount (s.frameCount + 1#32)
  else
    s1.setCur (s.cur + 1)

/-- The emitter's part of a step, given the sink's choice (R107): EMIT is enabled iff BUSY = 1 and the sink accepts; otherwise nothing
changes and the same byte is offered again. -/
def sinkChoice (pad : Nat) (accepts : Bool) (s : State) : State :=
  if s.busy && accepts then emit pad s else s

end Sys2Proof.Machine
end

