-- ==== Sys2Proof/Machine/Step.lean ====
section
/-! DEFINITION. One step of the machine: the environment's next choice is taken, and the agent it lets move takes one whole step (00_scope.md R12, 20_memory.md R50). -/

namespace Sys2Proof.Machine

/-- One step. A host transaction is decoded and performed whole (R50, R54); a choice of the sink lets the emitter emit or not
(42_protocol_encoder.md R107); the reset input resets (70_reset_and_hazards.md R160). With no choice left the environment does nothing,
and only a transaction, an emitter step or reset changes state (60_exceptions.md R151; log 4). -/
def step (s : State) : Host.Outcome State Fault Refusal :=
  match s.inputs with
  | [] => .next s
  | .host txn :: rest => exec (decode txn) (s.setInputs rest)
  | .sink accepts :: rest => .next (sinkChoice Config.padLen accepts (s.setInputs rest))
  | .rst :: rest => .next (resetAction (s.setInputs rest))

/-- The state in which the host's next transaction is the word `w`: it stands before all that the environment would do (log 8). A
transaction word has 38 bits, so `w` is below 2^38 for every row of the table, whatever `nbits` is (log 13). -/
def State.withFetchWord (s : State) (_nbits w : Nat) : State :=
  s.setInputs (.host (BitVec.ofNat 38 w) :: s.inputs)

end Sys2Proof.Machine
end

