-- ==== Sys2Proof/Machine/HostProgram.lean ====
section
/-! DEFINITION. The host's side of the port: the lines of a host program, the pseudo-instructions and their expansions, and drawBitmap as a host procedure (30_encoding.md R74 to R76, 40_frame_store.md R86). The block sees only the transactions. -/

namespace Sys2Proof.Machine

/-- The register names of R74. -/
inductive Reg where
  | ctrl | status | pos | pixel | frameCount | padLen
  deriving DecidableEq, Repr

/-- The register map (10_state.md R24). -/
def Reg.offset : Reg → Offset
  | .ctrl => 0x00#5
  | .status => 0x04#5
  | .pos => 0x08#5
  | .pixel => 0x0C#5
  | .frameCount => 0x10#5
  | .padLen => 0x14#5

/-- The spelling of a register's name (R74). -/
def Reg.name : Reg → String
  | .ctrl => "CTRL"
  | .status => "STATUS"
  | .pos => "POS"
  | .pixel => "PIXEL"
  | .frameCount => "FRAME_COUNT"
  | .padLen => "PAD_LEN"

/-- A line of a host program (R74). -/
inductive Line where
  /-- `RD <reg>` -/
  | rd (reg : Reg)
  /-- `WR <reg>, <value>` -/
  | wr (reg : Reg) (value : Word)
  /-- `RD @<off>` -/
  | rdAt (off : Offset)
  /-- `WR @<off>, <value>` -/
  | wrAt (off : Offset) (value : Word)
  deriving DecidableEq, Repr

/-- A line as it is written, with decimal values (R74; log 14). -/
def lineText : Line → String
  | .rd reg => "RD " ++ reg.name
  | .wr reg value => "WR " ++ reg.name ++ ", " ++ toString value.toNat
  | .rdAt off => "RD @" ++ toString off.toNat
  | .wrAt off value => "WR @" ++ toString off.toNat ++ ", " ++ toString value.toNat

/-- The one transaction of a line (R74, R65). -/
def lineTxn : Line → Txn
  | .rd reg => txnWord false reg.offset 0#32
  | .wr reg value => txnWord true reg.offset value
  | .rdAt off => txnWord false off 0#32
  | .wrAt off value => txnWord true off value

/-- The pseudo-instructions (R75, R76). The coordinates of DRAW are integers, which the expansion reduces to 8 bits. -/
inductive Pseudo where
  | draw (c r : Int) (rgb : Pixel)
  | clear
  | frame
  | blank
  | ack
  | poll (reg : Reg) (mask val : Word)
  | waitIdle
  deriving DecidableEq, Repr

/-- Whether a POLL's loop ends on the value its read returned (R76). -/
def pollEnds (mask val v : Word) : Bool := v &&& mask == val

/-- Whether the responses of a POLL's reads, in order, are those of a loop that has ended: it goes on after every one but the last (R76). -/
def pollResponses (mask val : Word) : List Word → Bool
  | [] => false
  | [v] => pollEnds mask val v
  | v :: vs => !pollEnds mask val v && pollResponses mask val vs

/-- The register, mask and value a pseudo-instruction polls, if it polls: WAITIDLE is POLL STATUS, 0x1, 0x0 (R75). -/
def pollOf : Pseudo → Option (Reg × Word × Word)
  | .poll reg mask val => some (reg, mask, val)
  | .waitIdle => some (.status, 1#32, 0#32)
  | .draw _ _ _ | .clear | .frame | .blank | .ack => none

/-- The lines a pseudo-instruction expands to (R75). A POLL is a host loop: how many reads it makes depends on the sink, and `n` is that
number (R76; log 14). -/
def expand (n : Nat) : Pseudo → List Line
  | .draw c r rgb => [.wr .pos ((BitVec.ofInt 8 r ++ BitVec.ofInt 8 c).setWidth 32), .wr .pixel (rgb.setWidth 32)]
  | .clear => [.wr .ctrl 2#32]
  | .frame => [.wr .ctrl 1#32]
  | .blank => [.wr .ctrl 3#32]
  | .ack => [.wr .status 6#32]
  | .poll reg _ _ => List.replicate n (.rd reg)
  | .waitIdle => List.replicate n (.rd .status)

/-- The coordinates that reduction to 8 bits keeps clipped as the source clips them (R86). -/
abbrev Drawable (c r : Int) : Prop := (-224 ≤ c ∧ c ≤ 255) ∧ (-248 ≤ r ∧ r ≤ 255)

/-- drawBitmap as the host performs it (R86): one DRAW per set bit, at (col + x, row + y), where the host itself skips a bit that the
reduction to 8 bits could land inside the grid. The bitmap is its list of set bits, since no source gives a format (log 14). -/
def drawBitmap (setBits : List (Nat × Nat)) (rgb : Pixel) (col row : Int) : List Pseudo :=
  (setBits.filter fun b => decide (Drawable (col + b.1) (row + b.2))).map fun b => .draw (col + b.1) (row + b.2) rgb

/-- A glyph as the font collaborator would hand it over: its width and its set bits (R86; the font itself is outside the block). -/
structure Glyph where
  width : Nat
  setBits : List (Nat × Nat)
  deriving DecidableEq, Repr

/-- drawText as the host performs it (R86): drawBitmap per glyph, the column advancing by the glyph's width and one cell of spacing. -/
def drawText (rgb : Pixel) (row : Int) : Int → List Glyph → List Pseudo
  | _, [] => []
  | col, g :: gs => drawBitmap g.setBits rgb col row ++ drawText rgb row (col + g.width + 1) gs

/-- The host's transactions as inputs of the machine, in program order (20_memory.md R54). -/
def hostInputs (ls : List Line) : List Input := ls.map fun l => .host (lineTxn l)

end Sys2Proof.Machine
end

