-- ==== Sys2Proof/Safety.lean ====
section
/-! DEFINITION. The terms claims are stated in: runs, the invariant, and what a list of inputs holds. -/

namespace Sys2Proof.Machine

/-- `k` steps from a state. -/
def runSteps (k : Nat) (s : State) : Host.Outcome State Fault Refusal := Host.Core.run Sys2Proof.core k s

/-- The invariants (a) and (b) of 10_state.md R33; (c) is the type of a cell. -/
def CursorInv (s : State) : Prop := (s.busy = false → s.cur = 0) ∧ s.cur < frameLen Config.padLen

/-- How many bytes the sink is willing to take in a list of inputs (42_protocol_encoder.md R107). -/
def acceptCount (l : List Input) : Nat := l.count (.sink true)

/-- No reset among the inputs: a claim about a frame says nothing of a run cut short by reset (70_reset_and_hazards.md R162; log 7). -/
def NoReset (l : List Input) : Prop := Input.rst ∉ l

/-- The next step performs the host transaction `i`. -/
def Performs (s : State) (i : Instr) : Prop := ∃ txn rest, s.inputs = .host txn :: rest ∧ decode txn = i

/-- The next step is a START that is accepted: a write of CTRL with DATA[0] = 1 while BUSY = 0 (R100). -/
def AcceptsStart (s : State) : Prop := s.busy = false ∧ ∃ data, dataStart data = true ∧ Performs s (.wrCtrl data)

/-- What PIX holds when the START of a CTRL write takes its snapshot: after the clear of the same write (40_frame_store.md R80). -/
def pixAtStart (data : Word) (s : State) : Cells := if dataClear data then Cells.black else s.pix

end Sys2Proof.Machine
end

