-- ==== Sys2Proof/Certificates/Slice0/Obligations.lean ====
section
/-! DEFINITION. The statements about the block, from the numbered rules of spec/. Each docstring names the rule it formalises. -/

open Sys2Proof Sys2Proof.Machine

/-! ## Encoding -/

/-- Words written out from the spec's encoding (30_encoding.md R65, R66; 95_test_vectors.md 2.4, 2.5) decode to what they stand for. -/
def Obligations.WrittenWordsDecode : Prop :=
  decode 0x2000000001#38 = .wrCtrl 0x1#32 ∧ decode 0x0400000000#38 = .rdStatus ∧ decode 0x2400000006#38 = .wrStatus 0x6#32 ∧
  decode 0x28ABCD071F#38 = .wrPos 0xABCD071F#32 ∧ decode 0x2C00FF0000#38 = .wrPixel 0x00FF0000#32 ∧
  decode 0x0C00000000#38 = .rdPixel ∧ decode 0x1000000000#38 = .rdFrameCount ∧ decode 0x3400000064#38 = .wrPadLen 0x64#32 ∧
  decode 0x1C00000000#38 = .rdRsvd 0x1C#5 ∧ decode 0x3800000000#38 = .wrRsvd 0x18#5 0#32 ∧
  decode 0x3F12345678#38 = .wrMis1 0x1F#5 0x12345678#32 ∧ decode 0x1A00000000#38 = .rdMis2 0x1A#5

/-- Decoding an encoded well-formed transaction gives it back, at every value of every operand (R65, R67). -/
def Obligations.DecodeInvertsEncode : Prop :=
  ∀ i : Instr, i.WellFormed → decode (encode i) = i ∧ decodeSpelled (encodeSpelled i) = .ok i ∧ decodeBytes (encodeBytes i) = .ok i

/-- Every one of the 2^38 words decodes to a well-formed transaction, which encodes to the word itself or, for a read, to the word with
its ignored DATA at the canonical value 0 (R65, R67, R72). -/
def Obligations.EncodeInvertsDecodeUpToReadData : Prop :=
  ∀ T : Txn, (decode T).WellFormed ∧ encode (decode T) = if T.getLsbD 37 then T else T &&& 0x3F00000000#38

/-- R67: the decoder on every word, by its offset's row, in the order of the rule; DATA of a read plays no part. -/
def Obligations.DecodingFollowsOffsetRows : Prop :=
  ∀ T : Txn, ∀ off : Offset, off = T.extractLsb' 32 5 → ∀ data : Word, data = T.extractLsb' 0 32 →
    (off.getLsbD 0 = true → decode T = if T.getLsbD 37 then .wrMis1 off data else .rdMis1 off) ∧
    (off.getLsbD 0 = false ∧ off.getLsbD 1 = true → decode T = if T.getLsbD 37 then .wrMis2 off data else .rdMis2 off) ∧
    (off = 0x18#5 ∨ off = 0x1C#5 → decode T = if T.getLsbD 37 then .wrRsvd off data else .rdRsvd off) ∧
    (off = 0x00#5 → decode T = if T.getLsbD 37 then .wrCtrl data else .rdCtrl) ∧
    (off = 0x04#5 → decode T = if T.getLsbD 37 then .wrStatus data else .rdStatus) ∧
    (off = 0x08#5 → decode T = if T.getLsbD 37 then .wrPos data else .rdPos) ∧
    (off = 0x0C#5 → decode T = if T.getLsbD 37 then .wrPixel data else .rdPixel) ∧
    (off = 0x10#5 → decode T = if T.getLsbD 37 then .wrFrameCount data else .rdFrameCount) ∧
    (off = 0x14#5 → decode T = if T.getLsbD 37 then .wrPadLen data else .rdPadLen)

/-- spec/opcode_table.json: every word matches the row of the transaction it decodes to, and no other row. -/
def Obligations.EveryWordMatchesItsOpcodeRowAlone : Prop :=
  ∀ T : Txn, ∃ r ∈ opcodeTable, r.hits T = true ∧ r.mnemonic = (decode T).mnemonic ∧
    ∀ r' ∈ opcodeTable, r'.hits T = true → r' = r

/-! ## Transactions: the next state of each, and with it what it leaves unchanged -/

/-- R80, with R81 and R100: a write of CTRL clears the store first when DATA[1] is set, then starts a frame when DATA[0] is set: the
start is accepted when no frame is in flight and takes its snapshot of the store after the clear, and is dropped with SD set otherwise.
DATA[31:2] plays no part, and nothing else changes. -/
def Obligations.WriteCtrlClearsThenStarts : Prop :=
  (∀ T : Txn, T.getLsbD 37 = true → T.extractLsb' 32 5 = 0x00#5 → decode T = .wrCtrl (T.extractLsb' 0 32)) ∧
  ∀ (data : Word) (s : State), ∃ t, exec (.wrCtrl data) s = .next t ∧
    (data.getLsbD 1 = true → ∀ c r, c < 32 → r < 8 → readCell t.pix c r = 0x000000#24) ∧
    (data.getLsbD 1 = false → t.pix = s.pix) ∧
    (data.getLsbD 0 = false → t = { s with pix := t.pix }) ∧
    (data.getLsbD 0 = true → s.busy = true → t = { s with pix := t.pix, sd := true }) ∧
    (data.getLsbD 0 = true → s.busy = false → t = { s with pix := t.pix, snap := t.pix, cur := 0, busy := true })

/-- R81: a CTRL write with CLEAR alone makes every cell Black, clearing twice is clearing once, and `SNAP`, `POS`, `BUSY`, `CUR`,
`FRAME_COUNT` and the sticky flags are unchanged. -/
def Obligations.ClearTouchesPixelStoreOnly : Prop :=
  ∀ (data : Word) (s t : State), data.getLsbD 1 = true → data.getLsbD 0 = false → exec (.wrCtrl data) s = .next t →
    (∀ c r, readCell t.pix c r = 0x000000#24) ∧ t = { s with pix := t.pix } ∧ exec (.wrCtrl data) t = .next t

/-- R82: COL takes DATA[7:0] and ROW takes DATA[15:8], in range or not, and nothing else changes. -/
def Obligations.WritePosStoresBothBytes : Prop :=
  (∀ T : Txn, T.getLsbD 37 = true → T.extractLsb' 32 5 = 0x08#5 → decode T = .wrPos (T.extractLsb' 0 32)) ∧
  ∀ (data : Word) (s : State), ∃ t, exec (.wrPos data) s = .next t ∧
    t.pos.col.toNat = data.toNat % 256 ∧ t.pos.row.toNat = data.toNat / 256 % 256 ∧ t = { s with pos := t.pos }

/-- R83: the response is 256 ROW + COL, as stored, and nothing else changes. -/
def Obligations.ReadPosReturnsRowAndCol : Prop :=
  (∀ T : Txn, T.getLsbD 37 = false → T.extractLsb' 32 5 = 0x08#5 → decode T = .rdPos) ∧
  ∀ s : State, ∃ v : Word, exec .rdPos s = .next { s with reads := s.reads ++ [v] } ∧
    v.toNat = 256 * s.pos.row.toNat + s.pos.col.toNat

/-- R84: an in-range write gives the cell at POS the value DATA[23:0] and leaves every other cell; an out-of-range write changes nothing;
POS and every flag are unchanged either way. -/
def Obligations.WritePixelWritesTheCellAtPos : Prop :=
  (∀ T : Txn, T.getLsbD 37 = true → T.extractLsb' 32 5 = 0x0C#5 → decode T = .wrPixel (T.extractLsb' 0 32)) ∧
  ∀ (data : Word) (s : State), ∃ t, exec (.wrPixel data) s = .next t ∧ t = { s with pix := t.pix } ∧
    (∀ c r, c < 32 → r < 8 → readCell t.pix c r =
      if c = s.pos.col.toNat ∧ r = s.pos.row.toNat then data.setWidth 24 else readCell s.pix c r) ∧
    (¬(s.pos.col.toNat < 32 ∧ s.pos.row.toNat < 8) → t = s)

/-- R85: the response is the cell of PIX at POS zero-extended, or 0 out of range, and nothing else changes. -/
def Obligations.ReadPixelReturnsTheCellAtPos : Prop :=
  (∀ T : Txn, T.getLsbD 37 = false → T.extractLsb' 32 5 = 0x0C#5 → decode T = .rdPixel) ∧
  ∀ s : State, ∃ v : Word, exec .rdPixel s = .next { s with reads := s.reads ++ [v] } ∧
    (s.pos.col.toNat < 32 ∧ s.pos.row.toNat < 8 → v.toNat = (readCell s.pix s.pos.col.toNat s.pos.row.toNat).toNat) ∧
    (¬(s.pos.col.toNat < 32 ∧ s.pos.row.toNat < 8) → v = 0#32)

/-- R120: a read of CTRL responds 0 and changes nothing else. -/
def Obligations.ReadCtrlReturnsZero : Prop :=
  (∀ T : Txn, T.getLsbD 37 = false → T.extractLsb' 32 5 = 0x00#5 → decode T = .rdCtrl) ∧
  ∀ s : State, exec .rdCtrl s = .next { s with reads := s.reads ++ [0x00000000#32] }

/-- R121: bit 0 is BUSY, bit 1 SD, bit 2 BA, the others 0; the read changes nothing else. -/
def Obligations.ReadStatusReturnsTheThreeFlags : Prop :=
  (∀ T : Txn, T.getLsbD 37 = false → T.extractLsb' 32 5 = 0x04#5 → decode T = .rdStatus) ∧
  ∀ s : State, ∃ v : Word, exec .rdStatus s = .next { s with reads := s.reads ++ [v] } ∧
    v.getLsbD 0 = s.busy ∧ v.getLsbD 1 = s.sd ∧ v.getLsbD 2 = s.ba ∧ ∀ k, 3 ≤ k → v.getLsbD k = false

/-- R122: a 1 in DATA[1] clears SD and a 1 in DATA[2] clears BA; a 0 leaves its flag; the write sets no flag, does not touch BUSY, and
changes nothing else. -/
def Obligations.WriteStatusClearsNamedFlags : Prop :=
  (∀ T : Txn, T.getLsbD 37 = true → T.extractLsb' 32 5 = 0x04#5 → decode T = .wrStatus (T.extractLsb' 0 32)) ∧
  ∀ (data : Word) (s : State), ∃ t, exec (.wrStatus data) s = .next t ∧ t = { s with sd := t.sd, ba := t.ba } ∧
    (data.getLsbD 1 = true → t.sd = false) ∧ (data.getLsbD 1 = false → t.sd = s.sd) ∧
    (data.getLsbD 2 = true → t.ba = false) ∧ (data.getLsbD 2 = false → t.ba = s.ba)

/-- R123: the response is FRAME_COUNT, all 32 bits, and nothing else changes. -/
def Obligations.ReadFrameCountReturnsCounter : Prop :=
  (∀ T : Txn, T.getLsbD 37 = false → T.extractLsb' 32 5 = 0x10#5 → decode T = .rdFrameCount) ∧
  ∀ s : State, exec .rdFrameCount s = .next { s with reads := s.reads ++ [s.frameCount] }

/-- R125 with R6: the response is the parameter PAD_LEN, which lies in 1..65535, in every state. -/
def Obligations.ReadPadLenReturnsParameter : Prop :=
  (∀ T : Txn, T.getLsbD 37 = false → T.extractLsb' 32 5 = 0x14#5 → decode T = .rdPadLen) ∧
  ∃ v : Word, v.toNat = Config.padLen ∧ 1 ≤ v.toNat ∧ v.toNat ≤ 65535 ∧
    ∀ s : State, exec .rdPadLen s = .next { s with reads := s.reads ++ [v] }

/-- R124 and R126: a write to FRAME_COUNT or to PAD_LEN sets BA and changes nothing else, whatever DATA is. -/
def Obligations.WriteToReadOnlyRegisterSetsBadAccess : Prop :=
  (∀ T : Txn, T.getLsbD 37 = true → T.extractLsb' 32 5 = 0x10#5 → decode T = .wrFrameCount (T.extractLsb' 0 32)) ∧
  (∀ T : Txn, T.getLsbD 37 = true → T.extractLsb' 32 5 = 0x14#5 → decode T = .wrPadLen (T.extractLsb' 0 32)) ∧
  ∀ (data : Word) (s : State), exec (.wrFrameCount data) s = .next { s with ba := true } ∧
    exec (.wrPadLen data) s = .next { s with ba := true }

/-- R127 and R128: at a reserved offset a read responds 0 and sets BA, a write sets BA, and nothing else changes. -/
def Obligations.ReservedOffsetSetsBadAccess : Prop :=
  (∀ (T : Txn) (off : Offset), off = 0x18#5 ∨ off = 0x1C#5 → T.extractLsb' 32 5 = off →
    decode T = if T.getLsbD 37 then .wrRsvd off (T.extractLsb' 0 32) else .rdRsvd off) ∧
  ∀ (off : Offset) (data : Word) (s : State),
    exec (.rdRsvd off) s = .next { s with reads := s.reads ++ [0x00000000#32], ba := true } ∧
    exec (.wrRsvd off data) s = .next { s with ba := true }

/-- R129 and R130: at a misaligned offset a read responds 0 and sets BA, a write sets BA, and no register is reached. -/
def Obligations.MisalignedOffsetSetsBadAccess : Prop :=
  (∀ (T : Txn) (off : Offset), off.getLsbD 0 = true ∨ off.getLsbD 1 = true → T.extractLsb' 32 5 = off →
    decode T = if T.getLsbD 37
      then (if off.getLsbD 0 then .wrMis1 off (T.extractLsb' 0 32) else .wrMis2 off (T.extractLsb' 0 32))
      else (if off.getLsbD 0 then .rdMis1 off else .rdMis2 off)) ∧
  ∀ (off : Offset) (data : Word) (s : State),
    exec (.rdMis1 off) s = .next { s with reads := s.reads ++ [0x00000000#32], ba := true } ∧
    exec (.rdMis2 off) s = .next { s with reads := s.reads ++ [0x00000000#32], ba := true } ∧
    exec (.wrMis1 off data) s = .next { s with ba := true } ∧
    exec (.wrMis2 off data) s = .next { s with ba := true }

/-! ## Whole-machine rules about transactions -/

/-- R51: every read is idempotent: made again with nothing between, it gives the same response and no other change of state. -/
def Obligations.ReadsAreIdempotent : Prop :=
  ∀ (i : Instr) (s t : State), i.isWrite = false → exec i s = .next t →
    ∃ v : Word, t.reads = s.reads ++ [v] ∧ exec i t = .next { t with reads := t.reads ++ [v] }

/-- R51: WR POS, WR PIXEL and WR STATUS are idempotent. -/
def Obligations.PosPixelAndStatusWritesAreIdempotent : Prop :=
  ∀ (i : Instr) (s t : State), (∃ data, i = .wrPos data ∨ i = .wrPixel data ∨ i = .wrStatus data) →
    exec i s = .next t → exec i t = .next t

/-- R140: every step answers a next state; no transaction and no emitter step raises an exception, whatever the word. -/
def Obligations.EveryStepAnswersNext : Prop :=
  ∀ s : State, ∃ t, step s = .next t

/-- R143 (a): a single transaction sets at most one flag: it never turns both SD and BA from 0 to 1. -/
def Obligations.TransactionReportsAtMostOneEvent : Prop :=
  ∀ (i : Instr) (s t : State), exec i s = .next t → s.sd = false → s.ba = false → ¬(t.sd = true ∧ t.ba = true)

/-- R20, R21: the sticky flags are set by exactly the transactions of R141 and cleared by STATUS writes alone. Over one step without a
reset, SD becomes 1 only by a START request while BUSY, and BA only by a write to a read-only register or an access at a reserved or
misaligned offset; either becomes 0 only by a STATUS write that names it. -/
def Obligations.StickyFlagWriters : Prop :=
  ∀ s t : State, step s = .next t → s.inputs.head? ≠ some .rst →
    (s.sd = false → t.sd = true → s.busy = true ∧ ∃ data, data.getLsbD 0 = true ∧ Performs s (.wrCtrl data)) ∧
    (s.ba = false → t.ba = true → ∃ i, Performs s i ∧ ((∃ d, i = .wrFrameCount d ∨ i = .wrPadLen d) ∨
      (∃ off, i = .rdRsvd off ∨ i = .rdMis1 off ∨ i = .rdMis2 off) ∨
      (∃ off d, i = .wrRsvd off d ∨ i = .wrMis1 off d ∨ i = .wrMis2 off d))) ∧
    (s.sd = true → t.sd = false → ∃ data, data.getLsbD 1 = true ∧ Performs s (.wrStatus data)) ∧
    (s.ba = true → t.ba = false → ∃ data, data.getLsbD 2 = true ∧ Performs s (.wrStatus data))

/-- R19, R22, R59: over one step without a reset, BUSY rises only by an accepted START and falls only when the emitter hands over the last
byte, and the counter moves in exactly that step, by one modulo 2^32. -/
def Obligations.BusyAndFrameCountWriters : Prop :=
  ∀ s t : State, step s = .next t → s.inputs.head? ≠ some .rst →
    (s.busy = false → (t.busy = true ↔ AcceptsStart s)) ∧
    (s.busy = true → (t.busy = false ↔ s.inputs.head? = some (.sink true) ∧ s.cur = frameLen Config.padLen - 1)) ∧
    (t.frameCount = if s.busy = true ∧ t.busy = false then s.frameCount + 1#32 else s.frameCount)

/-- R17, R55: over one step without a reset, SNAP changes only by an accepted START, which makes it the store as the clear of the same
write left it; and a host transaction made while a frame is in flight writes neither SNAP nor CUR nor BUSY. -/
def Obligations.SnapshotWriters : Prop :=
  ∀ s t : State, step s = .next t → s.inputs.head? ≠ some .rst →
    (¬AcceptsStart s → t.snap = s.snap) ∧
    (∀ data, s.busy = false → data.getLsbD 0 = true → Performs s (.wrCtrl data) → t.snap = pixAtStart data s ∧ t.snap = t.pix ∧ t.cur = 0) ∧
    (∀ i, s.busy = true → Performs s i → t.snap = s.snap ∧ t.cur = s.cur ∧ t.busy = true)

/-- R14, R23: over one step without a reset, the pixel store changes only by WR PIXEL or by a CTRL write with CLEAR, and POS only by
WR POS. -/
def Obligations.PixelStoreAndPosWriters : Prop :=
  ∀ s t : State, step s = .next t → s.inputs.head? ≠ some .rst →
    (t.pix ≠ s.pix → ∃ data, Performs s (.wrPixel data) ∨ (data.getLsbD 1 = true ∧ Performs s (.wrCtrl data))) ∧
    (t.pos ≠ s.pos → ∃ data, Performs s (.wrPos data))

/-- R56: a WR PIXEL is visible to the RD PIXEL after it, which responds the 24 bits written when POS is in range and 0 when it is not. -/
def Obligations.PixelWriteIsVisibleToTheNextRead : Prop :=
  ∀ (s : State) (w r : Txn) (data : Word) (rest : List Input), s.inputs = .host w :: .host r :: rest →
    decode w = .wrPixel data → decode r = .rdPixel →
    ∃ t v, runSteps 2 s = .next t ∧ t = { s with pix := t.pix, reads := s.reads ++ [v], inputs := rest } ∧
      v = if s.pos.col.toNat < 32 ∧ s.pos.row.toNat < 8 then data &&& 0x00FFFFFF#32 else 0#32

/-! ## Steps -/

/-- A step whose next input is a host transaction is exec of the decoded transaction, in the state whose inputs are the remaining ones
(R50, R54). -/
def Obligations.StepRunsTheDecodedTransaction : Prop :=
  ∀ (s : State) (txn : Txn) (rest : List Input) (i : Instr), s.inputs = .host txn :: rest → decode txn = i →
    step s = exec i { s with inputs := rest }

/-- R107: while BUSY = 0, or when the sink does not accept, the emitter takes no step and only the choice itself is consumed; and when the
environment does nothing, nothing changes (R151; that the empty list of inputs stands for it is log 4). -/
def Obligations.NoEmitterStepWithoutBusyAndSink : Prop :=
  ∀ (s : State) (a : Bool) (rest : List Input),
    (s.inputs = .sink a :: rest → s.busy = false ∨ a = false → step s = .next { s with inputs := rest }) ∧
    (s.inputs = [] → step s = .next s)

/-- R106: when the sink accepts while BUSY = 1, the emitter hands over byte CUR of Frame(SNAP); on the last byte the same step clears BUSY
and CUR and increments FRAME_COUNT modulo 2^32, otherwise CUR advances by one; nothing else changes. -/
def Obligations.EmitterHandsOverTheFrameByte : Prop :=
  ∀ (s : State) (rest : List Input), s.inputs = .sink true :: rest → s.busy = true → s.cur < frameLen Config.padLen →
    ∃ b t, (frame Config.padLen s.snap)[s.cur]? = some b ∧ step s = .next t ∧
      (s.cur = frameLen Config.padLen - 1 → t = { s with
        inputs := rest, out := s.out ++ [b], busy := false, cur := 0, frameCount := BitVec.ofNat 32 (s.frameCount.toNat + 1) } ∧ b = 0x00#8) ∧
      (s.cur ≠ frameLen Config.padLen - 1 → t = { s with inputs := rest, out := s.out ++ [b], cur := s.cur + 1 })

/-- R111: while BUSY = 0 a step appends nothing to OUT, and no host transaction appends to OUT; a byte is appended exactly when the emitter
steps, so OUT is never shortened or reordered between resets (R32). -/
def Obligations.OnlyTheEmitterAppendsToOut : Prop :=
  ∀ s t : State, step s = .next t → s.inputs.head? ≠ some .rst →
    (s.busy = true ∧ s.inputs.head? = some (.sink true) → ∃ b, t.out = s.out ++ [b]) ∧
    (¬(s.busy = true ∧ s.inputs.head? = some (.sink true)) → t.out = s.out)

/-- R57: a START and the acceptance of the last byte in one cycle are one of two serial orders: byte first, and the START begins a new
frame; or START first, and it is dropped with SD set and the frame ends. -/
def Obligations.LastByteAndStartInEitherOrder : Prop :=
  ∀ (s : State) (txn : Txn) (rest : List Input), decode txn = .wrCtrl 0x1#32 → s.busy = true → s.cur = frameLen Config.padLen - 1 →
    (∃ t, runSteps 2 { s with inputs := .sink true :: .host txn :: rest } = .next t ∧
      t = { s with inputs := rest, out := s.out ++ [0x00#8], snap := s.pix, cur := 0, frameCount := s.frameCount + 1#32 }) ∧
    (∃ t, runSteps 2 { s with inputs := .host txn :: .sink true :: rest } = .next t ∧
      t = { s with inputs := rest, out := s.out ++ [0x00#8], sd := true, busy := false, cur := 0, frameCount := s.frameCount + 1#32 })

/-- R160: after reset every cell of PIX is Black, CUR, BUSY, SD, BA, FRAME_COUNT and POS are 0, and OUT is empty. -/
def Obligations.ResetLeavesTheStatedValues : Prop :=
  (∀ c r, readCell State.reset.pix c r = 0x000000#24) ∧ State.reset.cur = 0 ∧ State.reset.busy = false ∧ State.reset.sd = false ∧
  State.reset.ba = false ∧ State.reset.frameCount = 0x00000000#32 ∧ State.reset.pos = ⟨0x00#8, 0x00#8⟩ ∧ State.reset.out = []

/-- R160, R162: the reset input gives every element of any state, a frame in flight or not, the value R160 gives it; that the state sequence
goes on with a new run and an empty record of responses is the model's choice (log 7). -/
def Obligations.ResetInputGivesTheResetValues : Prop :=
  ∀ (s : State) (rest : List Input), s.inputs = .rst :: rest → ∃ t, step s = .next t ∧
    t = { State.reset with snap := t.snap, inputs := rest, freeCount := t.freeCount }

/-- R33 (a) and (b), which every step keeps: BUSY = 0 implies CUR = 0, and CUR < FRAME_LEN. -/
def Obligations.StepKeepsCursorInvariant : Prop :=
  ∀ s t : State, CursorInv s → step s = .next t → CursorInv t

/-- R33: the state after reset has the invariant. -/
def Obligations.ResetHasCursorInvariant : Prop := CursorInv State.reset

/-! ## The serializer and the encoder -/

/-- R90, R91: SerpPos and SerpIndex are inverse bijections between the grid and the 256 physical pixels. -/
def Obligations.SerpentineMapsAreInverse : Prop :=
  (∀ p, p < 256 → (serpPos p).1 < 32 ∧ (serpPos p).2 < 8 ∧ serpIndex (serpPos p).1 (serpPos p).2 = p) ∧
  (∀ c r, c < 32 → r < 8 → serpIndex c r = 8 * c + (if c % 2 = 0 then r else 7 - r) ∧ serpIndex c r < 256 ∧
    serpPos (serpIndex c r) = (c, r))

/-- R92, R93, R94: the payload has 768 bytes, and the three bytes at the serpentine place of cell (c, r) are its bits 15:8 (green), 23:16
(red) and 7:0 (blue), unchanged (R95). -/
def Obligations.PayloadIsGreenRedBlueInSerpentineOrder : Prop :=
  ∀ S : Cells, (serialize S).length = 768 ∧ ∀ c r, c < 32 → r < 8 →
    (serialize S)[3 * (8 * c + (if c % 2 = 0 then r else 7 - r))]? = some ((readCell S c r).extractLsb' 8 8) ∧
    (serialize S)[3 * (8 * c + (if c % 2 = 0 then r else 7 - r)) + 1]? = some ((readCell S c r).extractLsb' 16 8) ∧
    (serialize S)[3 * (8 * c + (if c % 2 = 0 then r else 7 - r)) + 2]? = some ((readCell S c r).extractLsb' 0 8)

/-- R96: where an even column and the odd column after it hold the same image, the odd column's payload bytes are the even column's in
reverse pixel-group order. -/
def Obligations.OddColumnReversesEvenColumn : Prop :=
  ∀ (S : Cells) (c : Nat), c % 2 = 0 → c + 1 < 32 → (∀ r, r < 8 → readCell S c r = readCell S (c + 1) r) →
    ∀ k m, k < 8 → m < 3 → (serialize S)[24 * (c + 1) + 3 * k + m]? = (serialize S)[24 * c + 3 * (7 - k) + m]?

/-- R103, R104, R105, with R5 and R6: a frame is 12288 encoded bytes and PAD_LEN zero bytes, FRAME_LEN in all, whatever the data. -/
def Obligations.FrameLengthIsFixed : Prop :=
  ∀ (pad : Nat) (S : Cells), (encodePayload (serialize S)).length = 12288 ∧ (frame pad S).length = 12288 + pad ∧
    (frame pad S).drop 12288 = List.replicate pad 0x00#8

/-- R70: the frame has 12288 + PAD_LEN bytes; bit group i, symbol j of it is FF F0 when bit 7 - j of physical byte i is 1 and F0 00 when it
is 0; and the bytes after the 768 groups are zero. -/
def Obligations.SymbolsStandWhereTheFormatSays : Prop :=
  ∀ (pad : Nat) (S : Cells), (frame pad S).length = 12288 + pad ∧
    (∀ (i j : Nat) (b : Byte), i < 768 → j < 8 → (serialize S)[i]? = some b →
      (frame pad S)[16 * i + 2 * j]? = some (if b.getLsbD (7 - j) then 0xFF#8 else 0xF0#8) ∧
      (frame pad S)[16 * i + 2 * j + 1]? = some (if b.getLsbD (7 - j) then 0xF0#8 else 0x00#8)) ∧
    (∀ n, 12288 ≤ n → n < 12288 + pad → (frame pad S)[n]? = some 0x00#8)

/-- R108: the closed form gives the frame's byte at every index of the frame. -/
def Obligations.OutByteIsTheFrameByte : Prop :=
  ∀ (pad : Nat) (S : Cells) (n : Nat), n < frameLen pad → (frame pad S)[n]? = some (outByte S n) ∧
    outByte S n = if 12288 ≤ n then 0x00#8
      else if (physByte S (n / 16)).getLsbD (7 - n % 16 / 2) then (if n % 2 = 0 then 0xFF#8 else 0xF0#8)
      else (if n % 2 = 0 then 0xF0#8 else 0x00#8)

/-- R72, last sentence: every byte of a frame is one of FF, F0 and 00; at an even index of the encoded part it is never 00 and at an odd
index never FF (R112). -/
def Obligations.FrameBytesAreThreeValues : Prop :=
  ∀ (pad : Nat) (S : Cells) (n : Nat) (b : Byte), (frame pad S)[n]? = some b →
    (b = 0xFF#8 ∨ b = 0xF0#8 ∨ b = 0x00#8) ∧ (n < 12288 → n % 2 = 0 → b ≠ 0x00#8) ∧ (n % 2 = 1 → b ≠ 0xFF#8) ∧ (12288 ≤ n → b = 0x00#8)

/-- R112: the payload is recovered from any frame, the pixel array from the payload, every 768-byte sequence is the payload of an array, and
the encoding of payloads is injective. -/
def Obligations.FrameDeterminesThePixels : Prop :=
  (∀ (pad : Nat) (S : Cells), decodePayload (frame pad S) = serialize S) ∧
  (∀ S : Cells, deserialize (serialize S) = S) ∧
  (∀ P : List Byte, P.length = 768 → serialize (deserialize P) = P) ∧
  (∀ P Q : List Byte, encodePayload P = encodePayload Q → P = Q)

/-! ## Frames over whole runs -/

/-- R107, R109: from any state with a frame in flight, after any inputs without a reset in which the sink accepts fewer bytes than the frame
has left, the bytes appended to OUT are exactly the next ones of the frame, as many as the sink accepted, none dropped or repeated; the
frame is still in flight and the counter has not moved. -/
def Obligations.FrameInFlightAdvancesByAcceptedBytes : Prop :=
  ∀ (s : State) (pre rest : List Input), s.inputs = pre ++ rest → NoReset pre → s.busy = true →
    acceptCount pre + s.cur < frameLen Config.padLen →
    ∃ t, runSteps pre.length s = .next t ∧ t.busy = true ∧ t.cur = s.cur + acceptCount pre ∧ t.snap = s.snap ∧ t.inputs = rest ∧
      t.frameCount = s.frameCount ∧ t.out = s.out ++ ((frame Config.padLen s.snap).drop s.cur).take (acceptCount pre)

/-- R109: from a START that is accepted on, under every interleaving of host transactions and sink choices without a reset, the next
FRAME_LEN bytes appended to OUT are exactly Frame(S) for the store S the START took, and no other byte between them; BUSY stays 1 until the
step that appends the last of them and is 0 after it; and FRAME_COUNT grows by exactly one, in that step. -/
def Obligations.AcceptedStartDeliversItsFrame : Prop :=
  ∀ (s : State) (txn : Txn) (data : Word) (pre rest : List Input),
    s.inputs = .host txn :: (pre ++ .sink true :: rest) → decode txn = .wrCtrl data → data.getLsbD 0 = true → s.busy = false →
    NoReset pre → acceptCount pre + 1 = frameLen Config.padLen →
    (∀ k, k ≤ pre.length → ∃ u, runSteps (1 + k) s = .next u ∧ u.busy = true ∧ u.frameCount = s.frameCount ∧
      u.out = s.out ++ (frame Config.padLen (pixAtStart data s)).take (acceptCount (pre.take k))) ∧
    ∃ t, runSteps (1 + pre.length + 1) s = .next t ∧ t.out = s.out ++ frame Config.padLen (pixAtStart data s) ∧ t.busy = false ∧
      t.cur = 0 ∧ t.frameCount = s.frameCount + 1#32 ∧ t.inputs = rest

/-- R55, R110: the bytes of a frame in flight do not depend on any host transaction: two states with the same snapshot and cursor, and inputs
in which the sink accepts equally often, append the same bytes, whatever the hosts and the rest of the states are. -/
def Obligations.HostCannotChangeTheFrameInFlight : Prop :=
  ∀ (s s' t t' : State) (pre pre' rest rest' : List Input), s.inputs = pre ++ rest → s'.inputs = pre' ++ rest' → NoReset pre → NoReset pre' →
    s.busy = true → s'.busy = true → s.snap = s'.snap → s.cur = s'.cur → acceptCount pre = acceptCount pre' →
    acceptCount pre + s.cur ≤ frameLen Config.padLen → pre.getLast? = some (.sink true) → pre'.getLast? = some (.sink true) →
    runSteps pre.length s = .next t → runSteps pre'.length s' = .next t' →
    ∃ bytes, t.out = s.out ++ bytes ∧ t'.out = s'.out ++ bytes ∧ t.busy = t'.busy

/-- R107: a frame completes once the sink has accepted what is left of it: whatever the host does, if the inputs hold as many acceptances as
the frame has bytes left and no reset, some step among them clears BUSY with the counter grown by one. -/
def Obligations.FrameCompletesWhenTheSinkAccepts : Prop :=
  ∀ (s : State) (pre rest : List Input), s.inputs = pre ++ rest → NoReset pre → s.busy = true → s.cur < frameLen Config.padLen →
    frameLen Config.padLen ≤ acceptCount pre + s.cur →
    ∃ k t, k ≤ pre.length ∧ runSteps k s = .next t ∧ t.busy = false ∧ t.frameCount = s.frameCount + 1#32 ∧
      t.out = s.out ++ (frame Config.padLen s.snap).drop s.cur

/-! ## The host's side and the edges of the block -/

/-- R75, R86: DRAW with coordinates in [-224, 255] and [-248, 255] changes the store at (c, r) and nowhere else if that is in the grid, and
changes no cell if it is not; no flag is set. -/
def Obligations.DrawClipsAsTheSourceDoes : Prop :=
  ∀ (s : State) (n : Nat) (c r : Int) (rgb : Pixel) (rest : List Input),
    s.inputs = hostInputs (expand n (.draw c r rgb)) ++ rest → -224 ≤ c → c ≤ 255 → -248 ≤ r → r ≤ 255 →
    ∃ t, runSteps 2 s = .next t ∧ t = { s with pix := t.pix, pos := ⟨BitVec.ofInt 8 c, BitVec.ofInt 8 r⟩, inputs := rest } ∧
      ∀ x y : Nat, x < 32 → y < 8 → readCell t.pix x y = if (x : Int) = c ∧ (y : Int) = r then rgb else readCell s.pix x y

/-- R75: BLANK, while no frame is in flight, leaves every cell Black and starts a frame of Black cells. -/
def Obligations.BlankStartsABlackFrame : Prop :=
  ∀ (s : State) (n : Nat) (rest : List Input), s.inputs = hostInputs (expand n .blank) ++ rest → s.busy = false →
    ∃ t, step s = .next t ∧ t = { s with pix := t.pix, snap := t.pix, cur := 0, busy := true, inputs := rest } ∧
      ∀ c r, readCell t.pix c r = 0x000000#24

/-- R44, R7: byte address REG_BASE + OFF + k of an aligned register carries data bits 8k+7 to 8k, lies in the window, and REG_BASE is a
multiple of 32. -/
def Obligations.ByteLanesAreLittleEndian : Prop :=
  Config.regBase % 32 = 0 ∧
  (∀ (w : Word) (k b : Nat), k < 4 → b < 8 → (byteLane w k).getLsbD b = w.getLsbD (8 * k + b)) ∧
  (∀ w : Word, wordOfLanes (byteLane w 0) (byteLane w 1) (byteLane w 2) (byteLane w 3) = w) ∧
  (∀ (off : Offset) (k : Nat), off.toNat % 4 = 0 → k < 4 →
    laneAddress off k = Config.regBase + off.toNat + k ∧ windowOffset (laneAddress off k) = some (BitVec.ofNat 5 (off.toNat + k)))

/-- R47: under MSB-first shifting the symbol of a 1 is 12 high bit-times and then 4 low, and the symbol of a 0 is 4 high and then 12 low. -/
def Obligations.MsbFirstShiftingGivesTheWaveform : Prop :=
  lineBits (sym true) = List.replicate 12 true ++ List.replicate 4 false ∧
  lineBits (sym false) = List.replicate 4 true ++ List.replicate 12 false
end

