-- ==== Sys2Proof/Laws/Decode.lean ====
section
/-! SUPPORT. The fields of an encoded word, and what a word of known fields decodes to. -/

namespace Sys2Proof

/-- Each bit of an encoded word (30_encoding.md R65). -/
theorem getLsbD_txnWord (we : Bool) (off : Offset) (data : Word) (k : Nat) :
    (txnWord we off data).getLsbD k =
      if k < 32 then data.getLsbD k else if k - 32 < 5 then off.getLsbD (k - 32) else (BitVec.ofBool we).getLsbD (k - 32 - 5) := by
  exact (BitVec.getLsbD_append (x := BitVec.ofBool we ++ off) (y := data) (i := k)).trans (by rw [BitVec.getLsbD_append])

@[simp] theorem fieldWE_txnWord (we : Bool) (off : Offset) (data : Word) : fieldWE (txnWord we off data) = we := by
  rw [fieldWE, getLsbD_txnWord]
  cases we <;> rfl

@[simp] theorem fieldOFF_txnWord (we : Bool) (off : Offset) (data : Word) : fieldOFF (txnWord we off data) = off := by
  apply BitVec.eq_of_getLsbD_eq
  intro k hk
  simp only [fieldOFF, BitVec.getLsbD_extractLsb', getLsbD_txnWord]
  simp [hk]

@[simp] theorem fieldDATA_txnWord (we : Bool) (off : Offset) (data : Word) : fieldDATA (txnWord we off data) = data := by
  apply BitVec.eq_of_getLsbD_eq
  intro k hk
  simp only [fieldDATA, BitVec.getLsbD_extractLsb', getLsbD_txnWord]
  simp [hk]

/-- A word is its three fields (30_encoding.md R65). -/
theorem txnWord_fields (T : Txn) : txnWord (fieldWE T) (fieldOFF T) (fieldDATA T) = T := by
  apply BitVec.eq_of_getLsbD_eq
  intro k hk
  simp only [getLsbD_txnWord, fieldWE, fieldOFF, fieldDATA, BitVec.getLsbD_extractLsb']
  by_cases h1 : k < 32
  · simp [h1]
  · by_cases h2 : k - 32 < 5
    · simp [h1, h2, Nat.add_sub_cancel' (Nat.le_of_not_lt h1)]
    · obtain rfl : k = 37 := by omega
      cases T.getLsbD 37 <;> rfl

@[simp] theorem decode_txnWord_write (off : Offset) (data : Word) : decode (txnWord true off data) = decodeWrite off data := by
  simp [decode]

@[simp] theorem decode_txnWord_read (off : Offset) (data : Word) : decode (txnWord false off data) = decodeRead off := by
  simp [decode]

theorem slotOf_of_isOdd {off : Offset} (h : Offset.isOdd off = true) : slotOf off = .mis1 := by
  simp [slotOf, h]

theorem slotOf_of_isHalf {off : Offset} (h : Offset.isHalf off = true) : slotOf off = .mis2 := by
  have h1 : Offset.isOdd off = false := by simp_all [Offset.isHalf, Offset.isOdd]
  simp [slotOf, h, h1]

theorem slotOf_of_isReserved {off : Offset} (h : Offset.isReserved off = true) : slotOf off = .rsvd := by
  obtain rfl | rfl : off = 0x18#5 ∨ off = 0x1C#5 := by simpa [Offset.isReserved] using h
  all_goals decide

/-- The class of an offset says which offset it is, or which misaligned or reserved class it is of. -/
theorem slotOf_cases (off : Offset) :
    (slotOf off = .mis1 ∧ Offset.isOdd off = true) ∨ (slotOf off = .mis2 ∧ Offset.isHalf off = true) ∨
    (slotOf off = .rsvd ∧ Offset.isReserved off = true) ∨ (slotOf off = .ctrl ∧ off = 0x00#5) ∨
    (slotOf off = .status ∧ off = 0x04#5) ∨ (slotOf off = .pos ∧ off = 0x08#5) ∨ (slotOf off = .pixel ∧ off = 0x0C#5) ∨
    (slotOf off = .frameCount ∧ off = 0x10#5) ∨ (slotOf off = .padLen ∧ off = 0x14#5) := by
  revert off
  decide

end Sys2Proof
end

