-- ==== Sys2Proof/Laws/State.lean ====
section
/-! SUPPORT. One lemma per field per update of the state, so that no proof unfolds a record update. -/

namespace Sys2Proof.Machine

variable (s : State)

@[simp] theorem State.setPix_pix (p : Cells) : (s.setPix p).pix = p := rfl
@[simp] theorem State.setPix_snap (p : Cells) : (s.setPix p).snap = s.snap := rfl
@[simp] theorem State.setPix_cur (p : Cells) : (s.setPix p).cur = s.cur := rfl
@[simp] theorem State.setPix_busy (p : Cells) : (s.setPix p).busy = s.busy := rfl
@[simp] theorem State.setPix_sd (p : Cells) : (s.setPix p).sd = s.sd := rfl
@[simp] theorem State.setPix_ba (p : Cells) : (s.setPix p).ba = s.ba := rfl
@[simp] theorem State.setPix_frameCount (p : Cells) : (s.setPix p).frameCount = s.frameCount := rfl
@[simp] theorem State.setPix_pos (p : Cells) : (s.setPix p).pos = s.pos := rfl
@[simp] theorem State.setPix_out (p : Cells) : (s.setPix p).out = s.out := rfl
@[simp] theorem State.setPix_reads (p : Cells) : (s.setPix p).reads = s.reads := rfl
@[simp] theorem State.setPix_inputs (p : Cells) : (s.setPix p).inputs = s.inputs := rfl
@[simp] theorem State.setPix_freeCount (p : Cells) : (s.setPix p).freeCount = s.freeCount := rfl

@[simp] theorem State.setSnap_pix (p : Cells) : (s.setSnap p).pix = s.pix := rfl
@[simp] theorem State.setSnap_snap (p : Cells) : (s.setSnap p).snap = p := rfl
@[simp] theorem State.setSnap_cur (p : Cells) : (s.setSnap p).cur = s.cur := rfl
@[simp] theorem State.setSnap_busy (p : Cells) : (s.setSnap p).busy = s.busy := rfl
@[simp] theorem State.setSnap_sd (p : Cells) : (s.setSnap p).sd = s.sd := rfl
@[simp] theorem State.setSnap_ba (p : Cells) : (s.setSnap p).ba = s.ba := rfl
@[simp] theorem State.setSnap_frameCount (p : Cells) : (s.setSnap p).frameCount = s.frameCount := rfl
@[simp] theorem State.setSnap_pos (p : Cells) : (s.setSnap p).pos = s.pos := rfl
@[simp] theorem State.setSnap_out (p : Cells) : (s.setSnap p).out = s.out := rfl
@[simp] theorem State.setSnap_reads (p : Cells) : (s.setSnap p).reads = s.reads := rfl
@[simp] theorem State.setSnap_inputs (p : Cells) : (s.setSnap p).inputs = s.inputs := rfl
@[simp] theorem State.setSnap_freeCount (p : Cells) : (s.setSnap p).freeCount = s.freeCount := rfl

@[simp] theorem State.setCur_pix (n : Nat) : (s.setCur n).pix = s.pix := rfl
@[simp] theorem State.setCur_snap (n : Nat) : (s.setCur n).snap = s.snap := rfl
@[simp] theorem State.setCur_cur (n : Nat) : (s.setCur n).cur = n := rfl
@[simp] theorem State.setCur_busy (n : Nat) : (s.setCur n).busy = s.busy := rfl
@[simp] theorem State.setCur_sd (n : Nat) : (s.setCur n).sd = s.sd := rfl
@[simp] theorem State.setCur_ba (n : Nat) : (s.setCur n).ba = s.ba := rfl
@[simp] theorem State.setCur_frameCount (n : Nat) : (s.setCur n).frameCount = s.frameCount := rfl
@[simp] theorem State.setCur_pos (n : Nat) : (s.setCur n).pos = s.pos := rfl
@[simp] theorem State.setCur_out (n : Nat) : (s.setCur n).out = s.out := rfl
@[simp] theorem State.setCur_reads (n : Nat) : (s.setCur n).reads = s.reads := rfl
@[simp] theorem State.setCur_inputs (n : Nat) : (s.setCur n).inputs = s.inputs := rfl
@[simp] theorem State.setCur_freeCount (n : Nat) : (s.setCur n).freeCount = s.freeCount := rfl

@[simp] theorem State.setBusy_pix (b : Bool) : (s.setBusy b).pix = s.pix := rfl
@[simp] theorem State.setBusy_snap (b : Bool) : (s.setBusy b).snap = s.snap := rfl
@[simp] theorem State.setBusy_cur (b : Bool) : (s.setBusy b).cur = s.cur := rfl
@[simp] theorem State.setBusy_busy (b : Bool) : (s.setBusy b).busy = b := rfl
@[simp] theorem State.setBusy_sd (b : Bool) : (s.setBusy b).sd = s.sd := rfl
@[simp] theorem State.setBusy_ba (b : Bool) : (s.setBusy b).ba = s.ba := rfl
@[simp] theorem State.setBusy_frameCount (b : Bool) : (s.setBusy b).frameCount = s.frameCount := rfl
@[simp] theorem State.setBusy_pos (b : Bool) : (s.setBusy b).pos = s.pos := rfl
@[simp] theorem State.setBusy_out (b : Bool) : (s.setBusy b).out = s.out := rfl
@[simp] theorem State.setBusy_reads (b : Bool) : (s.setBusy b).reads = s.reads := rfl
@[simp] theorem State.setBusy_inputs (b : Bool) : (s.setBusy b).inputs = s.inputs := rfl
@[simp] theorem State.setBusy_freeCount (b : Bool) : (s.setBusy b).freeCount = s.freeCount := rfl

@[simp] theorem State.setSd_pix (b : Bool) : (s.setSd b).pix = s.pix := rfl
@[simp] theorem State.setSd_snap (b : Bool) : (s.setSd b).snap = s.snap := rfl
@[simp] theorem State.setSd_cur (b : Bool) : (s.setSd b).cur = s.cur := rfl
@[simp] theorem State.setSd_busy (b : Bool) : (s.setSd b).busy = s.busy := rfl
@[simp] theorem State.setSd_sd (b : Bool) : (s.setSd b).sd = b := rfl
@[simp] theorem State.setSd_ba (b : Bool) : (s.setSd b).ba = s.ba := rfl
@[simp] theorem State.setSd_frameCount (b : Bool) : (s.setSd b).frameCount = s.frameCount := rfl
@[simp] theorem State.setSd_pos (b : Bool) : (s.setSd b).pos = s.pos := rfl
@[simp] theorem State.setSd_out (b : Bool) : (s.setSd b).out = s.out := rfl
@[simp] theorem State.setSd_reads (b : Bool) : (s.setSd b).reads = s.reads := rfl
@[simp] theorem State.setSd_inputs (b : Bool) : (s.setSd b).inputs = s.inputs := rfl
@[simp] theorem State.setSd_freeCount (b : Bool) : (s.setSd b).freeCount = s.freeCount := rfl

@[simp] theorem State.setBa_pix (b : Bool) : (s.setBa b).pix = s.pix := rfl
@[simp] theorem State.setBa_snap (b : Bool) : (s.setBa b).snap = s.snap := rfl
@[simp] theorem State.setBa_cur (b : Bool) : (s.setBa b).cur = s.cur := rfl
@[simp] theorem State.setBa_busy (b : Bool) : (s.setBa b).busy = s.busy := rfl
@[simp] theorem State.setBa_sd (b : Bool) : (s.setBa b).sd = s.sd := rfl
@[simp] theorem State.setBa_ba (b : Bool) : (s.setBa b).ba = b := rfl
@[simp] theorem State.setBa_frameCount (b : Bool) : (s.setBa b).frameCount = s.frameCount := rfl
@[simp] theorem State.setBa_pos (b : Bool) : (s.setBa b).pos = s.pos := rfl
@[simp] theorem State.setBa_out (b : Bool) : (s.setBa b).out = s.out := rfl
@[simp] theorem State.setBa_reads (b : Bool) : (s.setBa b).reads = s.reads := rfl
@[simp] theorem State.setBa_inputs (b : Bool) : (s.setBa b).inputs = s.inputs := rfl
@[simp] theorem State.setBa_freeCount (b : Bool) : (s.setBa b).freeCount = s.freeCount := rfl

@[simp] theorem State.setFrameCount_pix (w : Word) : (s.setFrameCount w).pix = s.pix := rfl
@[simp] theorem State.setFrameCount_snap (w : Word) : (s.setFrameCount w).snap = s.snap := rfl
@[simp] theorem State.setFrameCount_cur (w : Word) : (s.setFrameCount w).cur = s.cur := rfl
@[simp] theorem State.setFrameCount_busy (w : Word) : (s.setFrameCount w).busy = s.busy := rfl
@[simp] theorem State.setFrameCount_sd (w : Word) : (s.setFrameCount w).sd = s.sd := rfl
@[simp] theorem State.setFrameCount_ba (w : Word) : (s.setFrameCount w).ba = s.ba := rfl
@[simp] theorem State.setFrameCount_frameCount (w : Word) : (s.setFrameCount w).frameCount = w := rfl
@[simp] theorem State.setFrameCount_pos (w : Word) : (s.setFrameCount w).pos = s.pos := rfl
@[simp] theorem State.setFrameCount_out (w : Word) : (s.setFrameCount w).out = s.out := rfl
@[simp] theorem State.setFrameCount_reads (w : Word) : (s.setFrameCount w).reads = s.reads := rfl
@[simp] theorem State.setFrameCount_inputs (w : Word) : (s.setFrameCount w).inputs = s.inputs := rfl
@[simp] theorem State.setFrameCount_freeCount (w : Word) : (s.setFrameCount w).freeCount = s.freeCount := rfl

@[simp] theorem State.setPos_pix (p : Pos) : (s.setPos p).pix = s.pix := rfl
@[simp] theorem State.setPos_snap (p : Pos) : (s.setPos p).snap = s.snap := rfl
@[simp] theorem State.setPos_cur (p : Pos) : (s.setPos p).cur = s.cur := rfl
@[simp] theorem State.setPos_busy (p : Pos) : (s.setPos p).busy = s.busy := rfl
@[simp] theorem State.setPos_sd (p : Pos) : (s.setPos p).sd = s.sd := rfl
@[simp] theorem State.setPos_ba (p : Pos) : (s.setPos p).ba = s.ba := rfl
@[simp] theorem State.setPos_frameCount (p : Pos) : (s.setPos p).frameCount = s.frameCount := rfl
@[simp] theorem State.setPos_pos (p : Pos) : (s.setPos p).pos = p := rfl
@[simp] theorem State.setPos_out (p : Pos) : (s.setPos p).out = s.out := rfl
@[simp] theorem State.setPos_reads (p : Pos) : (s.setPos p).reads = s.reads := rfl
@[simp] theorem State.setPos_inputs (p : Pos) : (s.setPos p).inputs = s.inputs := rfl
@[simp] theorem State.setPos_freeCount (p : Pos) : (s.setPos p).freeCount = s.freeCount := rfl

@[simp] theorem State.emitByte_pix (b : Byte) : (s.emitByte b).pix = s.pix := rfl
@[simp] theorem State.emitByte_snap (b : Byte) : (s.emitByte b).snap = s.snap := rfl
@[simp] theorem State.emitByte_cur (b : Byte) : (s.emitByte b).cur = s.cur := rfl
@[simp] theorem State.emitByte_busy (b : Byte) : (s.emitByte b).busy = s.busy := rfl
@[simp] theorem State.emitByte_sd (b : Byte) : (s.emitByte b).sd = s.sd := rfl
@[simp] theorem State.emitByte_ba (b : Byte) : (s.emitByte b).ba = s.ba := rfl
@[simp] theorem State.emitByte_frameCount (b : Byte) : (s.emitByte b).frameCount = s.frameCount := rfl
@[simp] theorem State.emitByte_pos (b : Byte) : (s.emitByte b).pos = s.pos := rfl
@[simp] theorem State.emitByte_out (b : Byte) : (s.emitByte b).out = s.out ++ [b] := rfl
@[simp] theorem State.emitByte_reads (b : Byte) : (s.emitByte b).reads = s.reads := rfl
@[simp] theorem State.emitByte_inputs (b : Byte) : (s.emitByte b).inputs = s.inputs := rfl
@[simp] theorem State.emitByte_freeCount (b : Byte) : (s.emitByte b).freeCount = s.freeCount := rfl

@[simp] theorem State.respond_pix (w : Word) : (s.respond w).pix = s.pix := rfl
@[simp] theorem State.respond_snap (w : Word) : (s.respond w).snap = s.snap := rfl
@[simp] theorem State.respond_cur (w : Word) : (s.respond w).cur = s.cur := rfl
@[simp] theorem State.respond_busy (w : Word) : (s.respond w).busy = s.busy := rfl
@[simp] theorem State.respond_sd (w : Word) : (s.respond w).sd = s.sd := rfl
@[simp] theorem State.respond_ba (w : Word) : (s.respond w).ba = s.ba := rfl
@[simp] theorem State.respond_frameCount (w : Word) : (s.respond w).frameCount = s.frameCount := rfl
@[simp] theorem State.respond_pos (w : Word) : (s.respond w).pos = s.pos := rfl
@[simp] theorem State.respond_out (w : Word) : (s.respond w).out = s.out := rfl
@[simp] theorem State.respond_reads (w : Word) : (s.respond w).reads = s.reads ++ [w] := rfl
@[simp] theorem State.respond_inputs (w : Word) : (s.respond w).inputs = s.inputs := rfl
@[simp] theorem State.respond_freeCount (w : Word) : (s.respond w).freeCount = s.freeCount := rfl

@[simp] theorem State.setInputs_pix (l : List Input) : (s.setInputs l).pix = s.pix := rfl
@[simp] theorem State.setInputs_snap (l : List Input) : (s.setInputs l).snap = s.snap := rfl
@[simp] theorem State.setInputs_cur (l : List Input) : (s.setInputs l).cur = s.cur := rfl
@[simp] theorem State.setInputs_busy (l : List Input) : (s.setInputs l).busy = s.busy := rfl
@[simp] theorem State.setInputs_sd (l : List Input) : (s.setInputs l).sd = s.sd := rfl
@[simp] theorem State.setInputs_ba (l : List Input) : (s.setInputs l).ba = s.ba := rfl
@[simp] theorem State.setInputs_frameCount (l : List Input) : (s.setInputs l).frameCount = s.frameCount := rfl
@[simp] theorem State.setInputs_pos (l : List Input) : (s.setInputs l).pos = s.pos := rfl
@[simp] theorem State.setInputs_out (l : List Input) : (s.setInputs l).out = s.out := rfl
@[simp] theorem State.setInputs_reads (l : List Input) : (s.setInputs l).reads = s.reads := rfl
@[simp] theorem State.setInputs_inputs (l : List Input) : (s.setInputs l).inputs = l := rfl
@[simp] theorem State.setInputs_freeCount (l : List Input) : (s.setInputs l).freeCount = s.freeCount := rfl

@[simp] theorem State.reset_pix : State.reset.pix = Cells.black := rfl
@[simp] theorem State.reset_snap : State.reset.snap = Cells.unspecified 0 := rfl
@[simp] theorem State.reset_cur : State.reset.cur = 0 := rfl
@[simp] theorem State.reset_busy : State.reset.busy = false := rfl
@[simp] theorem State.reset_sd : State.reset.sd = false := rfl
@[simp] theorem State.reset_ba : State.reset.ba = false := rfl
@[simp] theorem State.reset_frameCount : State.reset.frameCount = 0#32 := rfl
@[simp] theorem State.reset_pos : State.reset.pos = ⟨0#8, 0#8⟩ := rfl
@[simp] theorem State.reset_out : State.reset.out = [] := rfl
@[simp] theorem State.reset_reads : State.reset.reads = [] := rfl
@[simp] theorem State.reset_inputs : State.reset.inputs = [] := rfl
@[simp] theorem State.reset_freeCount : State.reset.freeCount = 0 := rfl

@[simp] theorem resetAction_pix : (resetAction s).pix = Cells.black := rfl
@[simp] theorem resetAction_snap : (resetAction s).snap = Cells.unspecified (s.freeCount + 1) := rfl
@[simp] theorem resetAction_cur : (resetAction s).cur = 0 := rfl
@[simp] theorem resetAction_busy : (resetAction s).busy = false := rfl
@[simp] theorem resetAction_sd : (resetAction s).sd = false := rfl
@[simp] theorem resetAction_ba : (resetAction s).ba = false := rfl
@[simp] theorem resetAction_frameCount : (resetAction s).frameCount = 0#32 := rfl
@[simp] theorem resetAction_pos : (resetAction s).pos = ⟨0#8, 0#8⟩ := rfl
@[simp] theorem resetAction_out : (resetAction s).out = [] := rfl
@[simp] theorem resetAction_reads : (resetAction s).reads = [] := rfl
@[simp] theorem resetAction_inputs : (resetAction s).inputs = s.inputs := rfl
@[simp] theorem resetAction_freeCount : (resetAction s).freeCount = s.freeCount + 1 := rfl

end Sys2Proof.Machine
end

