-- ==== Sys2Proof/Laws/Ops.lean ====
section
/-! SUPPORT. What each shared operation can do, said once. -/

namespace Sys2Proof.Machine

theorem readCell_of_inRange (S : Cells) {c r : Nat} (h : InRange c r) : readCell S c r = S[8 * c + r]'h.index_lt :=
  dif_pos h

@[simp] theorem readCell_of_not_inRange (S : Cells) {c r : Nat} (h : ¬InRange c r) : readCell S c r = 0#24 :=
  dif_neg h

theorem writeCell_of_inRange (S : Cells) (v : Pixel) {c r : Nat} (h : InRange c r) :
    writeCell S c r v = S.set (8 * c + r) v h.index_lt :=
  dif_pos h

@[simp] theorem writeCell_of_not_inRange (S : Cells) (v : Pixel) {c r : Nat} (h : ¬InRange c r) : writeCell S c r v = S :=
  dif_neg h

/-- No in-range pair aliases another (20_memory.md R42). -/
theorem InRange.index_inj {c r c' r' : Nat} (h : InRange c r) (h' : InRange c' r') :
    8 * c + r = 8 * c' + r' ↔ c = c' ∧ r = r' := by
  obtain ⟨-, hr⟩ := h
  obtain ⟨-, hr'⟩ := h'
  simp only [Config.rows] at hr hr'
  omega

/-- A read after a write: the written cell, if there is one, has the value, and every other cell is as before. -/
theorem readCell_writeCell (S : Cells) (v : Pixel) (c r c' r' : Nat) :
    readCell (writeCell S c r v) c' r' = if InRange c r ∧ c' = c ∧ r' = r then v else readCell S c' r' := by
  by_cases h : InRange c r
  · by_cases h' : InRange c' r'
    · rw [writeCell_of_inRange S v h, readCell_of_inRange _ h', readCell_of_inRange S h', Vector.getElem_set]
      have := InRange.index_inj h h'
      by_cases hx : c' = c ∧ r' = r
      · simp [h, hx]
      · rw [if_neg (by rw [this]; tauto), if_neg (by tauto)]
    · have hx : ¬(c' = c ∧ r' = r) := by rintro ⟨rfl, rfl⟩; exact h' h
      rw [readCell_of_not_inRange _ h', readCell_of_not_inRange _ h', if_neg (by tauto)]
  · rw [writeCell_of_not_inRange S v h, if_neg (by tauto)]

@[simp] theorem readCell_black (c r : Nat) : readCell Cells.black c r = 0#24 := by
  by_cases h : InRange c r
  · rw [readCell_of_inRange _ h]; simp [Cells.black]
  · exact readCell_of_not_inRange _ h

/-- Two arrays with the same cells are the same array. -/
theorem Cells.ext_readCell {S S' : Cells} (h : ∀ c r, InRange c r → readCell S c r = readCell S' c r) : S = S' := by
  ext1 k hk
  have hr : InRange (k / 8) (k % 8) := by
    simp only [InRange, Config.cols, Config.rows, Config.npix] at *
    omega
  have hx := h _ _ hr
  rw [readCell_of_inRange _ hr, readCell_of_inRange _ hr] at hx
  simpa only [Nat.div_add_mod] using hx

/-- Writing a cell twice is writing it once, with the last value (40_frame_store.md R84). -/
theorem writeCell_writeCell (S : Cells) (c r : Nat) (v w : Pixel) : writeCell (writeCell S c r v) c r w = writeCell S c r w := by
  refine Cells.ext_readCell fun c' r' _ => ?_
  simp only [readCell_writeCell]
  split <;> rfl

/-- The two outcomes of a START request (42_protocol_encoder.md R100). -/
theorem startRequest_cases (s : State) :
    (s.busy = true ∧ startRequest s = { s with sd := true }) ∨
    (s.busy = false ∧ startRequest s = { s with snap := s.pix, cur := 0, busy := true }) := by
  by_cases h : s.busy = true
  · exact .inl ⟨h, by simp [startRequest, h, State.setSd]⟩
  · refine .inr ⟨by simpa using h, ?_⟩
    simp only [startRequest, if_neg h]
    rfl

theorem clearAction_eq (s : State) : clearAction s = { s with pix := Cells.black } := rfl

theorem badAccess_eq (s : State) : badAccess s = { s with ba := true } := rfl

/-- An acknowledgement writes the two sticky flags and nothing else (43_status_registers.md R122). -/
theorem acknowledge_eq (data : Word) (s : State) :
    acknowledge data s = { s with sd := s.sd && !dataClrSd data, ba := s.ba && !dataClrBa data } := by
  cases h1 : dataClrSd data <;> cases h2 : dataClrBa data <;> simp [acknowledge, h1, h2, State.setSd, State.setBa]

end Sys2Proof.Machine
end

