-- ==== Sys2Proof/Laws/Encoder.lean ====
section
/-! SUPPORT. Lengths and elements of the serializer's and the encoder's lists. -/

namespace Sys2Proof.Machine

@[simp] theorem sym_length (b : Bool) : (sym b).length = 2 := by cases b <;> rfl

@[simp] theorem expandByte_length (b : Byte) : (expandByte b).length = 16 := by simp [expandByte]

@[simp] theorem serialize_length (S : Cells) : (serialize S).length = 768 := by simp [serialize]

theorem serialize_getElem? (S : Cells) {i : Nat} (h : i < 768) : (serialize S)[i]? = some (physByte S i) := by
  simp [serialize, Config.physLen, h]

/-- Half `h` of symbol `j` of a bit group (42_protocol_encoder.md R101, R102). -/
theorem expandByte_getElem? (b : Byte) (k : Nat) (hk : k < 16) :
    (expandByte b)[k]? = some (if b.getLsbD (7 - k / 2) then (if k % 2 = 0 then 0xFF#8 else 0xF0#8)
      else (if k % 2 = 0 then 0xF0#8 else 0x00#8)) := by
  have key : ∀ f : Nat → Bool, (sym (f 7) ++ sym (f 6) ++ sym (f 5) ++ sym (f 4) ++ sym (f 3) ++ sym (f 2) ++ sym (f 1) ++ sym (f 0))[k]?
      = some (if f (7 - k / 2) then (if k % 2 = 0 then 0xFF#8 else 0xF0#8) else (if k % 2 = 0 then 0xF0#8 else 0x00#8)) := by
    intro f
    have hs : ∀ x : Bool, sym x = [if x then 0xFF#8 else 0xF0#8, if x then 0xF0#8 else 0x00#8] := by decide
    simp only [hs, List.cons_append, List.nil_append]
    interval_cases k <;> simp
  exact key b.getLsbD

/-- An element of a list of chunks of one length is an element of its chunk. -/
theorem getElem?_flatMap_chunks {α β : Type} (f : α → List β) (w : Nat) (hw : 0 < w) (hf : ∀ a, (f a).length = w) (l : List α)
    (n : Nat) : (l.flatMap f)[n]? = (l[n / w]?).bind fun a => (f a)[n % w]? := by
  induction l generalizing n with
  | nil => simp
  | cons a l ih =>
    rw [List.flatMap_cons]
    by_cases h : n < w
    · rw [List.getElem?_append_left (by rw [hf]; exact h), Nat.div_eq_of_lt h, Nat.mod_eq_of_lt h]
      rfl
    · have hge : w ≤ n := Nat.le_of_not_lt h
      rw [List.getElem?_append_right (by rw [hf]; exact hge), hf, ih, Nat.div_eq_sub_div hw hge, List.getElem?_cons_succ,
        Nat.mod_eq_sub_mod hge]

@[simp] theorem encodePayload_length (P : List Byte) : (encodePayload P).length = P.length * 16 := by
  simp [encodePayload, List.length_flatMap]

@[simp] theorem latchGap_length (pad : Nat) : (latchGap pad).length = pad := by simp [latchGap]

/-- Every frame has FRAME_LEN bytes (42_protocol_encoder.md R105). -/
@[simp] theorem frame_length (pad : Nat) (S : Cells) : (frame pad S).length = frameLen pad := by
  simp [frame, frameLen, Config.encLen]

end Sys2Proof.Machine
end

