-- ==== Sys2Proof/Laws/Flags.lean ====
section
/-! SUPPORT. The bits and fields that writes use and reads assemble. -/

namespace Sys2Proof.Machine

/-- The bits of RD STATUS (43_status_registers.md R121). -/
theorem getLsbD_statusWord (s : State) (k : Nat) :
    (statusWord s).getLsbD k = if k = 0 then s.busy else if k = 1 then s.sd else if k = 2 then s.ba else false := by
  simp only [statusWord]
  generalize s.ba = ba, s.sd = sd, s.busy = busy
  rcases k with _ | _ | _ | k
  · revert ba sd busy; decide
  · revert ba sd busy; decide
  · revert ba sd busy; decide
  · simp

/-- RD POS as a number (40_frame_store.md R83). -/
theorem posWord_toNat (p : Pos) : (posWord p).toNat = 256 * p.row.toNat + p.col.toNat := by
  have h1 := p.row.isLt
  have h2 := p.col.isLt
  simp only [posWord, BitVec.toNat_setWidth, BitVec.toNat_append]
  rw [Nat.shiftLeft_eq, ← Nat.shiftLeft_eq, ← Nat.shiftLeft_add_eq_or_of_lt h2, Nat.shiftLeft_eq]
  omega

/-- The fields of a POS write as numbers (R82). -/
theorem dataPos_col_toNat (data : Word) : (dataPos data).col.toNat = data.toNat % 256 := by
  simp [dataPos, BitVec.extractLsb'_toNat]

theorem dataPos_row_toNat (data : Word) : (dataPos data).row.toNat = data.toNat / 256 % 256 := by
  simp [dataPos, BitVec.extractLsb'_toNat, Nat.shiftRight_eq_div_pow]

/-- A PIXEL write takes DATA[23:0] as the cell (R84). -/
theorem dataPixel_eq (data : Word) : dataPixel data = data.setWidth 24 := by
  apply BitVec.eq_of_getLsbD_eq
  intro k hk
  have e : (dataPixel data).getLsbD k
      = if k < 8 then (data.extractLsb' 0 8).getLsbD k
        else if k - 8 < 8 then (data.extractLsb' 8 8).getLsbD (k - 8) else (data.extractLsb' 16 8).getLsbD (k - 8 - 8) := by
    exact (BitVec.getLsbD_append (x := data.extractLsb' 16 8 ++ data.extractLsb' 8 8)
      (y := data.extractLsb' 0 8) (i := k)).trans (by rw [BitVec.getLsbD_append])
  rw [e]
  simp only [BitVec.getLsbD_extractLsb', BitVec.getLsbD_setWidth]
  by_cases h1 : k < 8
  · simp [h1, hk]
  · by_cases h2 : k - 8 < 8
    · simp [h1, h2, hk, Nat.add_sub_cancel' (Nat.le_of_not_lt h1)]
    · have h3 : k - 8 - 8 < 8 := by omega
      have h4 : 16 + (k - 8 - 8) = k := by omega
      simp [h1, h2, h3, h4, hk]

/-- RD PAD_LEN returns the parameter itself (43_status_registers.md R125), which fits 16 bits (00_scope.md R6). -/
theorem padLenWord_toNat : (padLenWord Config.padLen).toNat = Config.padLen := by
  have h := Config.padChoice.isLt
  simp only [padLenWord, BitVec.toNat_setWidth, BitVec.toNat_ofNat, Config.padLen]
  omega

end Sys2Proof.Machine
end

