-- ==== Sys2Proof/Laws/PerInstr.lean ====
section
/-! SUPPORT. Statements about every transaction as syntax, one lemma per constructor. -/

namespace Sys2Proof.Laws

/-- The offset an instruction's word carries (30_encoding.md R67). -/
def offsetOf : Instr → Offset
  | .rdCtrl | .wrCtrl _ => 0x00#5
  | .rdStatus | .wrStatus _ => 0x04#5
  | .rdPos | .wrPos _ => 0x08#5
  | .rdPixel | .wrPixel _ => 0x0C#5
  | .rdFrameCount | .wrFrameCount _ => 0x10#5
  | .rdPadLen | .wrPadLen _ => 0x14#5
  | .rdRsvd off | .rdMis1 off | .rdMis2 off => off
  | .wrRsvd off _ | .wrMis1 off _ | .wrMis2 off _ => off

/-- The DATA an instruction's word carries: 0 for a read (R65). -/
def dataOf : Instr → Word
  | .rdCtrl | .rdStatus | .rdPos | .rdPixel | .rdFrameCount | .rdPadLen | .rdRsvd _ | .rdMis1 _ | .rdMis2 _ => 0#32
  | .wrCtrl data | .wrStatus data | .wrPos data | .wrPixel data | .wrFrameCount data | .wrPadLen data => data
  | .wrRsvd _ data | .wrMis1 _ data | .wrMis2 _ data => data

end Sys2Proof.Laws

namespace Sys2Proof.Laws.EncodedFields

/-- The encoder lays the three fields of R65 where the decoder reads them. -/
def Statement (i : Instr) : Prop :=
  fieldWE (encode i) = i.isWrite ∧ fieldOFF (encode i) = offsetOf i ∧ fieldDATA (encode i) = dataOf i

variable (off : Offset) (data : Word)

theorem rdCtrl : Statement .rdCtrl := by simp [Statement, encode, Instr.isWrite, offsetOf, dataOf]
theorem wrCtrl : Statement (.wrCtrl data) := by simp [Statement, encode, Instr.isWrite, offsetOf, dataOf]
theorem rdStatus : Statement .rdStatus := by simp [Statement, encode, Instr.isWrite, offsetOf, dataOf]
theorem wrStatus : Statement (.wrStatus data) := by simp [Statement, encode, Instr.isWrite, offsetOf, dataOf]
theorem rdPos : Statement .rdPos := by simp [Statement, encode, Instr.isWrite, offsetOf, dataOf]
theorem wrPos : Statement (.wrPos data) := by simp [Statement, encode, Instr.isWrite, offsetOf, dataOf]
theorem rdPixel : Statement .rdPixel := by simp [Statement, encode, Instr.isWrite, offsetOf, dataOf]
theorem wrPixel : Statement (.wrPixel data) := by simp [Statement, encode, Instr.isWrite, offsetOf, dataOf]
theorem rdFrameCount : Statement .rdFrameCount := by simp [Statement, encode, Instr.isWrite, offsetOf, dataOf]
theorem wrFrameCount : Statement (.wrFrameCount data) := by simp [Statement, encode, Instr.isWrite, offsetOf, dataOf]
theorem rdPadLen : Statement .rdPadLen := by simp [Statement, encode, Instr.isWrite, offsetOf, dataOf]
theorem wrPadLen : Statement (.wrPadLen data) := by simp [Statement, encode, Instr.isWrite, offsetOf, dataOf]
theorem rdRsvd : Statement (.rdRsvd off) := by simp [Statement, encode, Instr.isWrite, offsetOf, dataOf]
theorem wrRsvd : Statement (.wrRsvd off data) := by simp [Statement, encode, Instr.isWrite, offsetOf, dataOf]
theorem rdMis1 : Statement (.rdMis1 off) := by simp [Statement, encode, Instr.isWrite, offsetOf, dataOf]
theorem wrMis1 : Statement (.wrMis1 off data) := by simp [Statement, encode, Instr.isWrite, offsetOf, dataOf]
theorem rdMis2 : Statement (.rdMis2 off) := by simp [Statement, encode, Instr.isWrite, offsetOf, dataOf]
theorem wrMis2 : Statement (.wrMis2 off data) := by simp [Statement, encode, Instr.isWrite, offsetOf, dataOf]

end Sys2Proof.Laws.EncodedFields
end

