-- ==== Sys2Proof/Laws/Step.lean ====
section
/-! SUPPORT. What EMIT, a transaction and a step can do, said once; runs one step at a time. -/

namespace Sys2Proof.Machine

/-- The two outcomes of EMIT (42_protocol_encoder.md R106). -/
theorem emit_cases (pad : Nat) (s : State) :
    (s.cur = frameLen pad - 1 ∧ emit pad s = { s with
        out := s.out ++ [outByte s.snap s.cur], busy := false, cur := 0, frameCount := s.frameCount + 1#32 }) ∨
    (s.cur ≠ frameLen pad - 1 ∧ emit pad s = { s with out := s.out ++ [outByte s.snap s.cur], cur := s.cur + 1 }) := by
  by_cases h : s.cur = frameLen pad - 1
  · exact .inl ⟨h, by simp only [emit, if_pos h]; rfl⟩
  · exact .inr ⟨h, by simp only [emit, if_neg h]; rfl⟩

/-- EMIT appends exactly one byte and touches neither the store, the snapshot, POS, the sticky flags nor the inputs (R106, R149). -/
@[simp] theorem emit_out (pad : Nat) (s : State) : (emit pad s).out = s.out ++ [outByte s.snap s.cur] := by
  rcases emit_cases pad s with ⟨_, e⟩ | ⟨_, e⟩ <;> rw [e]
@[simp] theorem emit_pix (pad : Nat) (s : State) : (emit pad s).pix = s.pix := by
  rcases emit_cases pad s with ⟨_, e⟩ | ⟨_, e⟩ <;> rw [e]
@[simp] theorem emit_snap (pad : Nat) (s : State) : (emit pad s).snap = s.snap := by
  rcases emit_cases pad s with ⟨_, e⟩ | ⟨_, e⟩ <;> rw [e]
@[simp] theorem emit_pos (pad : Nat) (s : State) : (emit pad s).pos = s.pos := by
  rcases emit_cases pad s with ⟨_, e⟩ | ⟨_, e⟩ <;> rw [e]
@[simp] theorem emit_sd (pad : Nat) (s : State) : (emit pad s).sd = s.sd := by
  rcases emit_cases pad s with ⟨_, e⟩ | ⟨_, e⟩ <;> rw [e]
@[simp] theorem emit_ba (pad : Nat) (s : State) : (emit pad s).ba = s.ba := by
  rcases emit_cases pad s with ⟨_, e⟩ | ⟨_, e⟩ <;> rw [e]
@[simp] theorem emit_reads (pad : Nat) (s : State) : (emit pad s).reads = s.reads := by
  rcases emit_cases pad s with ⟨_, e⟩ | ⟨_, e⟩ <;> rw [e]
@[simp] theorem emit_inputs (pad : Nat) (s : State) : (emit pad s).inputs = s.inputs := by
  rcases emit_cases pad s with ⟨_, e⟩ | ⟨_, e⟩ <;> rw [e]

/-- When the sink's choice lets the emitter move (R107). -/
theorem sinkChoice_cases (pad : Nat) (a : Bool) (s : State) :
    (s.busy = true ∧ a = true ∧ sinkChoice pad a s = emit pad s) ∨ ((s.busy = false ∨ a = false) ∧ sinkChoice pad a s = s) := by
  cases h : s.busy <;> cases a <;> simp [sinkChoice, h]

/-- The state a transaction leads to; `exec_eq_effect` says that every transaction has one (60_exceptions.md R140). -/
def effect (i : Instr) (s : State) : State :=
  match exec i s with
  | .next t => t
  | .fault _ => s
  | .refused _ => s

theorem exec_eq_effect (i : Instr) (s : State) : exec i s = .next (effect i s) := by
  cases i <;> rfl

/-- No transaction touches OUT, FRAME_COUNT or what the environment will do; none touches SNAP, CUR or BUSY but a START request
(20_memory.md R55, 60_exceptions.md R149). -/
theorem effect_frame (i : Instr) (s : State) :
    (effect i s).out = s.out ∧ (effect i s).frameCount = s.frameCount ∧ (effect i s).inputs = s.inputs ∧
    (effect i s).freeCount = s.freeCount := by
  cases i
  case wrCtrl data =>
    simp only [effect, exec, execWrCtrl]
    split <;> split <;> first | (rcases startRequest_cases (clearAction s) with ⟨_, h⟩ | ⟨_, h⟩ <;> rw [h] <;> simp [clearAction_eq])
                              | (rcases startRequest_cases s with ⟨_, h⟩ | ⟨_, h⟩ <;> rw [h] <;> simp)
                              | simp [clearAction_eq]
  case wrStatus data => simp [effect, exec, execWrStatus, acknowledge_eq]
  all_goals simp [effect, exec, execRdCtrl, execRdStatus, execRdPos, execWrPos, execRdPixel, execWrPixel, execRdFrameCount,
    execWrFrameCount, execRdPadLen, execWrPadLen, execRdRsvd, execWrRsvd, execRdMis1, execWrMis1, execRdMis2, execWrMis2, badRead,
    badAccess_eq]

/-- While a frame is in flight no transaction touches SNAP, CUR or BUSY (20_memory.md R55). -/
theorem effect_while_busy (i : Instr) (s : State) (hb : s.busy = true) :
    (effect i s).snap = s.snap ∧ (effect i s).cur = s.cur ∧ (effect i s).busy = true := by
  cases i
  case wrCtrl data =>
    simp only [effect, exec, execWrCtrl]
    split <;> split <;> simp [startRequest, clearAction_eq, hb]
  case wrStatus data => simp [effect, exec, execWrStatus, acknowledge_eq, hb]
  all_goals simp [effect, exec, execRdCtrl, execRdStatus, execRdPos, execWrPos, execRdPixel, execWrPixel, execRdFrameCount,
    execWrFrameCount, execRdPadLen, execWrPadLen, execRdRsvd, execWrRsvd, execRdMis1, execWrMis1, execRdMis2, execWrMis2, badRead,
    badAccess_eq, hb]

theorem step_nil {s : State} (h : s.inputs = []) : step s = .next s := by
  simp [step, h]

theorem step_host {s : State} {txn : Txn} {rest : List Input} (h : s.inputs = .host txn :: rest) :
    step s = .next (effect (decode txn) (s.setInputs rest)) := by
  simp only [step, h, exec_eq_effect]

theorem step_sink {s : State} {a : Bool} {rest : List Input} (h : s.inputs = .sink a :: rest) :
    step s = .next (sinkChoice Config.padLen a (s.setInputs rest)) := by
  simp only [step, h]

theorem step_rst {s : State} {rest : List Input} (h : s.inputs = .rst :: rest) :
    step s = .next (resetAction (s.setInputs rest)) := by
  simp only [step, h]

/-- Everything a step can do. -/
theorem step_cases {s t : State} (h : step s = .next t) :
    (s.inputs = [] ∧ t = s) ∨
    (∃ txn rest, s.inputs = .host txn :: rest ∧ t = effect (decode txn) (s.setInputs rest)) ∨
    (∃ a rest, s.inputs = .sink a :: rest ∧ t = sinkChoice Config.padLen a (s.setInputs rest)) ∨
    (∃ rest, s.inputs = .rst :: rest ∧ t = resetAction (s.setInputs rest)) := by
  rcases hi : s.inputs with _ | ⟨_ | _ | _, rest⟩
  · rw [step_nil hi] at h; cases h; simp
  · rw [step_host hi] at h; cases h; simp
  · rw [step_sink hi] at h; cases h; simp
  · rw [step_rst hi] at h; cases h; simp

@[simp] theorem runSteps_zero (s : State) : runSteps 0 s = .next s := rfl

theorem runSteps_succ {s t : State} (k : Nat) (h : step s = .next t) : runSteps (k + 1) s = runSteps k t := by
  have h' : Sys2Proof.core.step s = .next t := h
  simp only [runSteps, Host.Core.run]
  rw [h']

/-- `j + k` steps are `j` steps and then `k` more. -/
theorem runSteps_add {s t : State} (j k : Nat) (h : runSteps j s = .next t) : runSteps (j + k) s = runSteps k t := by
  induction j generalizing s with
  | zero => cases h; simp
  | succ j ih =>
    rcases hs : step s with u | u | u
    · rw [runSteps_succ j hs] at h
      rw [Nat.succ_add, runSteps_succ _ hs, ih h]
    · cases u
    · exfalso
      rcases hi : s.inputs with _ | ⟨_ | _ | _, rest⟩
      · rw [step_nil hi] at hs; cases hs
      · rw [step_host hi] at hs; cases hs
      · rw [step_sink hi] at hs; cases hs
      · rw [step_rst hi] at hs; cases hs

end Sys2Proof.Machine
end

