-- ==== Sys2Proof/Tests/Slice0.lean ====
section
/-! SUPPORT. Small tests with results from spec/95_test_vectors.md and the rules, and a witness for the hypotheses of each statement. -/

namespace Sys2Proof.Tests

open Sys2Proof Sys2Proof.Machine

/-! ## WellFormed refuses -/

theorem test_wellFormed_rdRsvd : Instr.wellFormed (.rdRsvd 0x14#5) = false := by decide
theorem test_wellFormed_wrRsvd : Instr.wellFormed (.wrRsvd 0x00#5 1#32) = false := by decide
theorem test_wellFormed_rdMis1 : Instr.wellFormed (.rdMis1 0x02#5) = false := by decide
theorem test_wellFormed_wrMis1 : Instr.wellFormed (.wrMis1 0x1C#5 0#32) = false := by decide
theorem test_wellFormed_rdMis2 : Instr.wellFormed (.rdMis2 0x03#5) = false := by decide
theorem test_wellFormed_wrMis2 : Instr.wellFormed (.wrMis2 0x04#5 0#32) = false := by decide

/-! ## Decoding: words of 95_test_vectors.md 2.4, 2.5 and section 3, every constructor once; then what is rejected -/

theorem test_decode_RD_CTRL : decode 0x0000000000#38 = .rdCtrl := by decide
theorem test_decode_WR_CTRL : decode 0x20FFFFFFFC#38 = .wrCtrl 0xFFFFFFFC#32 := by decide
theorem test_decode_RD_STATUS : decode 0x0400000000#38 = .rdStatus := by decide
theorem test_decode_WR_STATUS : decode 0x2400000006#38 = .wrStatus 0x6#32 := by decide
theorem test_decode_RD_POS : decode 0x0800000000#38 = .rdPos := by decide
theorem test_decode_WR_POS : decode 0x28ABCD071F#38 = .wrPos 0xABCD071F#32 := by decide
theorem test_decode_RD_PIXEL : decode 0x0C00000000#38 = .rdPixel := by decide
theorem test_decode_WR_PIXEL : decode 0x2CFF00FF00#38 = .wrPixel 0xFF00FF00#32 := by decide
theorem test_decode_RD_FRAME_COUNT : decode 0x1000000000#38 = .rdFrameCount := by decide
theorem test_decode_WR_FRAME_COUNT : decode 0x3000000007#38 = .wrFrameCount 7#32 := by decide
theorem test_decode_RD_PAD_LEN : decode 0x1400000000#38 = .rdPadLen := by decide
theorem test_decode_WR_PAD_LEN : decode 0x3400000064#38 = .wrPadLen 100#32 := by decide
theorem test_decode_RD_RSVD : decode 0x1C00000000#38 = .rdRsvd 0x1C#5 := by decide
theorem test_decode_WR_RSVD : decode 0x3CFFFFFFFF#38 = .wrRsvd 0x1C#5 0xFFFFFFFF#32 := by decide
theorem test_decode_RD_MIS1 : decode 0x0500000000#38 = .rdMis1 0x05#5 := by decide
theorem test_decode_WR_MIS1 : decode 0x3F12345678#38 = .wrMis1 0x1F#5 0x12345678#32 := by decide
theorem test_decode_RD_MIS2 : decode 0x1A00000000#38 = .rdMis2 0x1A#5 := by decide
theorem test_decode_WR_MIS2 : decode 0x2200000001#38 = .wrMis2 0x02#5 1#32 := by decide

theorem test_decode_read_data_ignored : decode 0x04FFFFFFFF#38 = .rdStatus := by decide
theorem test_decodeSpelled_high_bits : decodeSpelled 0x4000000000#40 = .error .highBitsSet := by decide
theorem test_decodeBytes_five : decodeBytes [0x2C#8, 0x00#8, 0xFF#8, 0x00#8, 0x00#8] = .ok (.wrPixel 0x00FF0000#32) := by decide
theorem test_decodeBytes_four : decodeBytes [0x2C#8, 0x00#8, 0xFF#8, 0x00#8] = .error (.notFiveBytes 4) := by decide
theorem test_decodeTableWord : decodeTableWord 40 0x2000000001 = some (.wrCtrl 1#32) ∧ decodeTableWord 40 0x4000000000 = none := by decide
theorem test_encode_spelling : encodeSpelled (.wrPixel 0x00FF0000#32) = 0x2C00FF0000#40 := by decide

/-! ## One transaction on a small state (V-REG vectors) -/

/-- The reset state with one cell of PIX written. -/
def withPixel (c r : Nat) (v : Pixel) : State := { State.reset with pix := writeCell Cells.black c r v }

/-- The reset state with POS set. -/
def atPos (c r : Byte) : State := { State.reset with pos := ⟨c, r⟩ }

/-- BUSY = 1, SD = 1, BA = 1, the start state of V-REG-13 to V-REG-15. -/
def allFlags : State := { State.reset with busy := true, sd := true, ba := true }

/-- V-REG-3. -/
theorem test_WR_CTRL_clear : readCell (effect (.wrCtrl 2#32) (withPixel 5 3 0x123456#24)).pix 5 3 = 0#24 ∧
    (effect (.wrCtrl 2#32) (withPixel 5 3 0x123456#24)).busy = false := by decide

/-- V-REG-5: the clear stands, the start is dropped. -/
theorem test_WR_CTRL_dropped :
    let t := effect (.wrCtrl 3#32) { withPixel 0 0 0xFFFFFF#24 with busy := true, cur := 7 }
    readCell t.pix 0 0 = 0#24 ∧ t.sd = true ∧ t.cur = 7 := by decide

/-- R100's example. -/
theorem test_WR_CTRL_start : let t := effect (.wrCtrl 1#32) (effect (.wrPixel 0x00FF00#32) State.reset)
    readCell t.snap 0 0 = 0x00FF00#24 ∧ t.busy = true ∧ t.cur = 0 := by decide

/-- V-REG-7. -/
theorem test_WR_POS_RD_POS : let t := effect .rdPos (effect (.wrPos 0xABCD071F#32) State.reset)
    t.pos = ⟨31#8, 7#8⟩ ∧ t.reads = [0x0000071F#32] := by decide

/-- V-REG-8. -/
theorem test_WR_PIXEL_RD_PIXEL : let t := effect .rdPixel (effect (.wrPixel 0xFF00FF00#32) State.reset)
    readCell t.pix 0 0 = 0x00FF00#24 ∧ t.reads = [0x0000FF00#32] := by decide

/-- V-REG-9: column 32 names no cell; column 0 of the next row would, if the pair aliased. -/
theorem test_WR_PIXEL_out_of_range : let t := effect (.wrPixel 0xFFFFFF#32) (atPos 0#8 8#8)
    readCell t.pix 1 0 = 0#24 ∧ t.ba = false := by decide

/-- V-REG-10. -/
theorem test_RD_PIXEL_out_of_range : (effect .rdPixel { withPixel 0 7 0xFFFFFF#24 with pos := ⟨0#8, 255#8⟩ }).reads = [0#32] := by decide

/-- V-REG-12 and V-REG-13. -/
theorem test_RD_CTRL : (effect .rdCtrl allFlags).reads = [0#32] := by decide
theorem test_RD_STATUS : (effect .rdStatus allFlags).reads = [7#32] ∧ (effect .rdStatus { allFlags with sd := false }).reads = [5#32] := by
  decide

/-- V-REG-14 to V-REG-16. -/
theorem test_WR_STATUS_busy_bit : let t := effect (.wrStatus 1#32) allFlags
    (t.busy, t.sd, t.ba) = (true, true, true) := by decide
theorem test_WR_STATUS_clears : let t := effect (.wrStatus 6#32) allFlags; let u := effect (.wrStatus 4#32) allFlags
    (t.busy, t.sd, t.ba) = (true, false, false) ∧ (u.sd, u.ba) = (true, false) := by decide

/-- V-REG-17 and V-REG-18. -/
theorem test_RD_FRAME_COUNT : (effect .rdFrameCount { State.reset with frameCount := 0xFFFFFFFF#32 }).reads = [0xFFFFFFFF#32] := by decide
theorem test_WR_FRAME_COUNT : let t := effect (.wrFrameCount 0#32) { State.reset with frameCount := 3#32 }
    t.frameCount = 3#32 ∧ t.ba = true := by decide

/-- V-REG-19, the response for PAD_LEN = 4; V-REG-20. -/
theorem test_RD_PAD_LEN : padLenWord 4 = 4#32 := by decide
theorem test_WR_PAD_LEN : (effect (.wrPadLen 100#32) State.reset).ba = true := by decide

/-- V-REG-21, V-REG-22, V-REG-24, V-REG-25, V-REG-26. -/
theorem test_RD_RSVD : let t := effect (.rdRsvd 0x18#5) State.reset; t.reads = [0#32] ∧ t.ba = true := by decide
theorem test_WR_RSVD : let t := effect (.wrRsvd 0x1C#5 0xFFFFFFFF#32) State.reset; t.reads = [] ∧ t.ba = true := by decide
theorem test_RD_MIS1 : let t := effect (.rdMis1 0x05#5) allFlags; t.reads = [0#32] ∧ t.ba = true := by decide
theorem test_RD_MIS2 : let t := effect (.rdMis2 0x0E#5) State.reset; t.reads = [0#32] ∧ t.ba = true := by decide
theorem test_WR_MIS1_no_start : let t := effect (.wrMis1 0x01#5 1#32) State.reset; t.busy = false ∧ t.ba = true := by decide
theorem test_WR_MIS1_no_pixel : readCell (effect (.wrMis1 0x0D#5 0x00FFFFFF#32) State.reset).pix 0 0 = 0#24 := by decide
theorem test_WR_MIS2 : let t := effect (.wrMis2 0x02#5 3#32) State.reset; t.busy = false ∧ t.ba = true := by decide

/-! ## Serializer, encoder and emitter (V-SER, V-ENC, V-EMIT) -/

/-- V-SER-1. -/
theorem test_serpPos : serpPos 13 = (1, 2) ∧ serpPos 44 = (5, 3) ∧ serpPos 248 = (31, 7) ∧ serpPos 255 = (31, 0) ∧ serpIndex 5 3 = 44 ∧
    serpIndex 2 5 = 21 := by decide

/-- V-SER-2. -/
theorem test_physByte : let S := writeCell Cells.black 5 3 0x123456#24
    (physByte S 132, physByte S 133, physByte S 134, physByte S 135) = (0x34#8, 0x12#8, 0x56#8, 0#8) := by decide
theorem test_physByte_last : physByte (writeCell Cells.black 31 0 0x0000FF#24) 767 = 0xFF#8 := by decide

/-- V-ENC-2. -/
theorem test_expandByte_A5 : expandByte 0xA5#8 = [0xFF, 0xF0, 0xF0, 0x00, 0xFF, 0xF0, 0xF0, 0x00, 0xF0, 0x00, 0xFF, 0xF0, 0xF0, 0x00,
    0xFF, 0xF0] := by decide

/-- V-ENC-4. -/
theorem test_outByte : let S := writeCell Cells.black 0 0 0x00A500#24
    (outByte S 0, outByte S 1, outByte S 2, outByte S 3, outByte S 15, outByte S 16) = (0xFF#8, 0xF0#8, 0xF0#8, 0x00#8, 0xF0#8, 0xF0#8) ∧
    (outByte S 12286, outByte S 12287, outByte S 12288) = (0xF0#8, 0x00#8, 0x00#8) := by decide

/-- V-EMIT-1, for PAD_LEN = 4. -/
theorem test_emit_first : let t := emit 4 { State.reset with busy := true, snap := Cells.black }
    t.out = [0xF0#8] ∧ t.cur = 1 ∧ t.busy = true := by decide

/-- V-EMIT-3, for PAD_LEN = 4: the last byte, with the counter wrapping. -/
theorem test_emit_last : let t := emit 4 { State.reset with busy := true, cur := 12291, frameCount := 0xFFFFFFFF#32 }
    t.out = [0x00#8] ∧ t.busy = false ∧ t.cur = 0 ∧ t.frameCount = 0#32 := by decide

/-- V-EMIT-4 and V-EMIT-6. -/
theorem test_sinkChoice_waits : (sinkChoice 4 false { State.reset with busy := true, cur := 100 }).cur = 100 ∧
    (sinkChoice 4 true State.reset).out = [] := by decide

/-! ## A step, and the host's notation -/

/-- P5: the misaligned read as the first transaction after reset. -/
theorem test_step_first_word : ∃ t, step (State.reset.withFetchWord 40 0x0500000000) = .next t ∧ t.ba = true ∧ t.reads = [0#32] ∧
    t.inputs = [] := ⟨_, rfl, rfl, rfl, rfl⟩

/-- P1: DRAW 0, 0, 0x00FF00 and FRAME; P2: DRAW 1, 7. -/
theorem test_expand_draw : (expand 1 (.draw 0 0 0x00FF00#24)).map lineTxn = [0x2800000000#38, 0x2C0000FF00#38] ∧
    (expand 1 (.draw 1 7 0xFF0000#24)).map lineTxn = [0x2800000701#38, 0x2C00FF0000#38] ∧
    (expand 1 .frame).map lineTxn = [0x2000000001#38] ∧ (expand 2 .waitIdle).map lineTxn = [0x0400000000#38, 0x0400000000#38] := by decide

/-- R75: -1 becomes 255; R86: column 260 would reduce to 4, so the host skips it. -/
theorem test_drawBitmap_skips : drawBitmap [(0, 0), (1, 0)] 1#24 259 0 = [] ∧ drawBitmap [(0, 0), (1, 0)] 1#24 255 0 = [.draw 255 0 1#24] := by
  decide
theorem test_pollResponses : pollResponses 1#32 0#32 [1#32, 7#32, 6#32] = true ∧ pollResponses 1#32 0#32 [0#32, 1#32] = false := by decide

/-! ## Witnesses: concrete terms that meet the hypotheses of a statement together -/

theorem witness_DecodeInvertsEncode : Instr.WellFormed (.rdRsvd 0x1C#5) ∧ Instr.WellFormed (.wrMis1 0x1F#5 0xFFFFFFFF#32) ∧
    Instr.WellFormed (.rdMis2 0x1E#5) := by decide

/-- One word for each row of R67, at the ends of its range. -/
theorem witness_DecodingFollowsOffsetRows :
    BitVec.getLsbD ((0x3F00000000#38).extractLsb' 32 5) 0 = true ∧
    (BitVec.getLsbD ((0x1E00000000#38).extractLsb' 32 5) 0 = false ∧ BitVec.getLsbD ((0x1E00000000#38).extractLsb' 32 5) 1 = true) ∧
    (0x1800000000#38).extractLsb' 32 5 = 0x18#5 ∧ (0x3C00000000#38).extractLsb' 32 5 = 0x1C#5 ∧
    (0x0000000000#38).extractLsb' 32 5 = 0x00#5 ∧ (0x2400000000#38).extractLsb' 32 5 = 0x04#5 ∧
    (0x0800000000#38).extractLsb' 32 5 = 0x08#5 ∧ (0x2C00000000#38).extractLsb' 32 5 = 0x0C#5 ∧
    (0x1000000000#38).extractLsb' 32 5 = 0x10#5 ∧ (0x3400000000#38).extractLsb' 32 5 = 0x14#5 := by decide

theorem witness_WriteCtrlClearsThenStarts :
    (0x2000000003#38).getLsbD 37 = true ∧ (0x2000000003#38).extractLsb' 32 5 = 0x00#5 ∧
    BitVec.getLsbD 3#32 1 = true ∧ BitVec.getLsbD 3#32 0 = true ∧ BitVec.getLsbD 0xFFFFFFFC#32 1 = false ∧
    BitVec.getLsbD 0xFFFFFFFC#32 0 = false ∧ State.reset.busy = false ∧ allFlags.busy = true := by decide

theorem witness_ClearTouchesPixelStoreOnly : BitVec.getLsbD 2#32 1 = true ∧ BitVec.getLsbD 2#32 0 = false ∧
    ∃ t, exec (.wrCtrl 2#32) (withPixel 5 3 0x123456#24) = .next t := ⟨by decide, by decide, _, rfl⟩

theorem witness_WritePosStoresBothBytes : (0x28ABCD071F#38).getLsbD 37 = true ∧ (0x28ABCD071F#38).extractLsb' 32 5 = 0x08#5 := by decide
theorem witness_ReadPosReturnsRowAndCol : (0x0800000000#38).getLsbD 37 = false ∧ (0x0800000000#38).extractLsb' 32 5 = 0x08#5 := by decide

theorem witness_WritePixelWritesTheCellAtPos :
    (0x2C00FF0000#38).getLsbD 37 = true ∧ (0x2C00FF0000#38).extractLsb' 32 5 = 0x0C#5 ∧
    ¬((atPos 32#8 0#8).pos.col.toNat < 32 ∧ (atPos 32#8 0#8).pos.row.toNat < 8) := by decide

theorem witness_ReadPixelReturnsTheCellAtPos :
    (0x0C00000000#38).getLsbD 37 = false ∧ (0x0C00000000#38).extractLsb' 32 5 = 0x0C#5 ∧
    ((atPos 31#8 7#8).pos.col.toNat < 32 ∧ (atPos 31#8 7#8).pos.row.toNat < 8) ∧
    ¬((atPos 0#8 8#8).pos.col.toNat < 32 ∧ (atPos 0#8 8#8).pos.row.toNat < 8) := by decide

theorem witness_ReadCtrlReturnsZero : (0x00FFFFFFFF#38).getLsbD 37 = false ∧ (0x00FFFFFFFF#38).extractLsb' 32 5 = 0x00#5 := by decide
theorem witness_ReadStatusReturnsTheThreeFlags :
    (0x0400000000#38).getLsbD 37 = false ∧ (0x0400000000#38).extractLsb' 32 5 = 0x04#5 := by decide
theorem witness_WriteStatusClearsNamedFlags :
    (0x2400000006#38).getLsbD 37 = true ∧ (0x2400000006#38).extractLsb' 32 5 = 0x04#5 ∧ BitVec.getLsbD 4#32 1 = false ∧
    BitVec.getLsbD 4#32 2 = true ∧ BitVec.getLsbD 2#32 1 = true ∧ BitVec.getLsbD 2#32 2 = false := by decide
theorem witness_ReadFrameCountReturnsCounter :
    (0x1000000000#38).getLsbD 37 = false ∧ (0x1000000000#38).extractLsb' 32 5 = 0x10#5 := by decide
theorem witness_ReadPadLenReturnsParameter :
    (0x1400000000#38).getLsbD 37 = false ∧ (0x1400000000#38).extractLsb' 32 5 = 0x14#5 := by decide
theorem witness_WriteToReadOnlyRegisterSetsBadAccess :
    ((0x3000000007#38).getLsbD 37 = true ∧ (0x3000000007#38).extractLsb' 32 5 = 0x10#5) ∧
    ((0x3400000064#38).getLsbD 37 = true ∧ (0x3400000064#38).extractLsb' 32 5 = 0x14#5) := by decide
theorem witness_ReservedOffsetSetsBadAccess :
    (0x1800000000#38).extractLsb' 32 5 = 0x18#5 ∧ (0x3C00000000#38).extractLsb' 32 5 = 0x1C#5 := by decide
theorem witness_MisalignedOffsetSetsBadAccess :
    (BitVec.getLsbD 0x01#5 0 = true ∧ (0x2100000001#38).extractLsb' 32 5 = 0x01#5) ∧
    (BitVec.getLsbD 0x1E#5 1 = true ∧ (0x1E00000000#38).extractLsb' 32 5 = 0x1E#5) := by decide

theorem witness_ReadsAreIdempotent : Instr.isWrite (.rdRsvd 0x18#5) = false ∧ ∃ t, exec (.rdRsvd 0x18#5) State.reset = .next t :=
  ⟨rfl, _, rfl⟩
theorem witness_PosPixelAndStatusWritesAreIdempotent :
    (∃ data, Instr.wrPixel 5#32 = .wrPos data ∨ Instr.wrPixel 5#32 = .wrPixel data ∨ Instr.wrPixel 5#32 = .wrStatus data) ∧
    ∃ t, exec (.wrPixel 5#32) State.reset = .next t := ⟨⟨5#32, by simp⟩, _, rfl⟩
theorem witness_TransactionReportsAtMostOneEvent : State.reset.sd = false ∧ State.reset.ba = false ∧
    ∃ t, exec (.wrFrameCount 0#32) State.reset = .next t ∧ t.ba = true := ⟨rfl, rfl, _, rfl, rfl⟩

/-- Each clause at a step that meets it: START dropped, a write to a read-only register, and an acknowledgement of either flag. -/
theorem witness_StickyFlagWriters :
    (∃ t, step { State.reset with busy := true, inputs := [.host 0x2000000001#38] } = .next t ∧ t.sd = true) ∧
    (∃ t, step { State.reset with inputs := [.host 0x3000000007#38] } = .next t ∧ t.ba = true) ∧
    (∃ t, step { allFlags with inputs := [.host 0x2400000002#38] } = .next t ∧ t.sd = false) ∧
    (∃ t, step { allFlags with inputs := [.host 0x2400000004#38] } = .next t ∧ t.ba = false) :=
  ⟨⟨_, rfl, rfl⟩, ⟨_, rfl, rfl⟩, ⟨_, rfl, rfl⟩, ⟨_, rfl, rfl⟩⟩

/-- The step that ends a frame, and the step that starts one. -/
theorem witness_BusyAndFrameCountWriters :
    (∃ t, step { State.reset with busy := true, cur := frameLen Config.padLen - 1, inputs := [.sink true] } = .next t ∧ t.busy = false) ∧
    (∃ t, step { State.reset with inputs := [.host 0x2000000001#38] } = .next t ∧ t.busy = true) := by
  refine ⟨⟨_, rfl, ?_⟩, _, rfl, rfl⟩
  simp [sinkChoice, emit]

theorem witness_SnapshotWriters :
    AcceptsStart { State.reset with inputs := [.host 0x2000000003#38] } ∧
    (∃ t, step { State.reset with inputs := [.host 0x2000000003#38] } = .next t) ∧
    ¬AcceptsStart { State.reset with inputs := [] } ∧
    Performs { State.reset with busy := true, inputs := [.host 0x2000000003#38] } (.wrCtrl 3#32) := by
  refine ⟨⟨rfl, 3#32, by decide, _, _, rfl, by decide⟩, ⟨_, rfl⟩, ?_, _, _, rfl, by decide⟩
  rintro ⟨-, _, -, _, _, h, -⟩
  simp at h

/-- A step that changes the pixel store, and one that changes POS. -/
theorem witness_PixelStoreAndPosWriters :
    (∃ t, step { State.reset with inputs := [.host 0x2C00FF0000#38] } = .next t ∧ t.pix ≠ State.reset.pix) ∧
    (∃ t, step { State.reset with inputs := [.host 0x2800000001#38] } = .next t ∧ t.pos ≠ State.reset.pos) := by
  refine ⟨⟨_, rfl, fun h => ?_⟩, _, rfl, by decide⟩
  exact absurd (congrArg (fun S => readCell S 0 0) h) (by decide)

theorem witness_PixelWriteIsVisibleToTheNextRead :
    decode 0x2C00FF0000#38 = .wrPixel 0x00FF0000#32 ∧ decode 0x0C00000000#38 = .rdPixel ∧
    ({ State.reset with inputs := [.host 0x2C00FF0000#38, .host 0x0C00000000#38] } : State).inputs =
      .host 0x2C00FF0000#38 :: .host 0x0C00000000#38 :: [] := by decide

theorem witness_StepRunsTheDecodedTransaction :
    ({ State.reset with inputs := [.host 0x0400000000#38] } : State).inputs = .host 0x0400000000#38 :: [] ∧
    decode 0x0400000000#38 = .rdStatus := by decide

theorem witness_NoEmitterStepWithoutBusyAndSink :
    ({ State.reset with inputs := [.sink true] } : State).inputs = .sink true :: [] ∧ State.reset.busy = false ∧
    State.reset.inputs = [] := by decide

/-- In the middle of a frame, and at its last byte. -/
theorem witness_EmitterHandsOverTheFrameByte :
    ({ State.reset with busy := true, inputs := [.sink true] } : State).cur < frameLen Config.padLen ∧
    ({ State.reset with busy := true, cur := frameLen Config.padLen - 1, inputs := [.sink true] } : State).cur < frameLen Config.padLen := by
  simp [frameLen, Config.encLen]

theorem witness_OnlyTheEmitterAppendsToOut :
    (∃ t, step { State.reset with busy := true, inputs := [.sink true] } = .next t ∧ t.out ≠ []) ∧
    (∃ t, step { State.reset with inputs := [.sink true] } = .next t ∧ t.out = []) := by
  refine ⟨⟨_, step_sink rfl, ?_⟩, _, rfl, rfl⟩
  simp [sinkChoice]

theorem witness_LastByteAndStartInEitherOrder : decode 0x2000000001#38 = .wrCtrl 0x1#32 ∧
    ({ State.reset with busy := true, cur := frameLen Config.padLen - 1 } : State).busy = true ∧
    ({ State.reset with busy := true, cur := frameLen Config.padLen - 1 } : State).cur = frameLen Config.padLen - 1 :=
  ⟨by decide, rfl, rfl⟩

theorem witness_ResetInputGivesTheResetValues :
    ({ allFlags with inputs := [.rst, .sink true] } : State).inputs = .rst :: [.sink true] := by decide

theorem witness_StepKeepsCursorInvariant :
    CursorInv { State.reset with busy := true, cur := 12287, inputs := [.sink true] } ∧
    ∃ t, step { State.reset with busy := true, cur := 12287, inputs := [.sink true] } = .next t :=
  ⟨⟨by simp, by simp only [frameLen, Config.encLen, Config.padLen]; omega⟩, _, rfl⟩

theorem witness_SerpentineMapsAreInverse : (255 : Nat) < 256 ∧ (31 : Nat) < 32 ∧ (7 : Nat) < 8 := by decide
theorem witness_PayloadIsGreenRedBlueInSerpentineOrder : (31 : Nat) < 32 ∧ (7 : Nat) < 8 := by decide

/-- V-SER-4's columns 2 and 3 with one cell of each set. -/
theorem witness_OddColumnReversesEvenColumn :
    let S := writeCell (writeCell Cells.black 2 5 0x60_15_A5#24) 3 5 0x60_15_A5#24
    2 % 2 = 0 ∧ 2 + 1 < 32 ∧ ∀ r, r < 8 → readCell S 2 r = readCell S (2 + 1) r := by decide

theorem witness_SymbolsStandWhereTheFormatSays : (serialize Cells.black)[767]? = some 0x00#8 ∧ (12288 : Nat) < 12288 + 4 := by
  refine ⟨?_, by decide⟩
  rw [serialize_getElem? _ (by decide)]
  decide

theorem witness_OutByteIsTheFrameByte : 12287 < frameLen 4 ∧ 12291 < frameLen 4 := by decide

theorem witness_FrameBytesAreThreeValues : ∃ b, (frame 4 Cells.black)[12291]? = some b :=
  ⟨_, List.getElem?_eq_getElem (by rw [frame_length]; decide)⟩

theorem witness_FrameDeterminesThePixels : (List.replicate 768 0xA5#8).length = 768 := List.length_replicate

theorem witness_FrameInFlightAdvancesByAcceptedBytes :
    let s : State := { State.reset with busy := true, inputs := [.host 0x2000000003#38, .sink true] }
    s.inputs = [.host 0x2000000003#38, .sink true] ++ [] ∧ NoReset s.inputs ∧ s.busy = true ∧
    acceptCount s.inputs + s.cur < frameLen Config.padLen := by
  refine ⟨by simp, by simp [NoReset], rfl, ?_⟩
  simp [acceptCount, frameLen, Config.encLen]
  omega

theorem witness_AcceptedStartDeliversItsFrame :
    let pre : List Input := List.replicate (12287 + Config.padLen) (.sink true)
    let s : State := { State.reset with inputs := .host 0x2000000003#38 :: (pre ++ .sink true :: []) }
    s.inputs = .host 0x2000000003#38 :: (pre ++ .sink true :: []) ∧ decode 0x2000000003#38 = .wrCtrl 3#32 ∧
    BitVec.getLsbD 3#32 0 = true ∧ s.busy = false ∧ NoReset pre ∧ acceptCount pre + 1 = frameLen Config.padLen := by
  refine ⟨rfl, by decide, by decide, rfl, by simp [NoReset, List.mem_replicate], ?_⟩
  simp [acceptCount, frameLen, Config.encLen]
  omega

/-- Two hosts: one does nothing, one clears the store and asks for a frame, while the same byte goes out. -/
theorem witness_HostCannotChangeTheFrameInFlight :
    let s : State := { State.reset with busy := true, inputs := [.sink true] }
    let s' : State := { State.reset with busy := true, ba := true, inputs := [.host 0x2000000003#38, .sink true] }
    s.snap = s'.snap ∧ s.cur = s'.cur ∧ acceptCount s.inputs = acceptCount s'.inputs ∧ NoReset s.inputs ∧ NoReset s'.inputs ∧
    acceptCount s.inputs + s.cur ≤ frameLen Config.padLen ∧ s.inputs.getLast? = some (.sink true) ∧
    s'.inputs.getLast? = some (.sink true) ∧ (∃ t, runSteps 1 s = .next t) ∧ ∃ t, runSteps 2 s' = .next t := by
  refine ⟨rfl, rfl, by simp [acceptCount], by simp [NoReset], by simp [NoReset], ?_, rfl, rfl, ⟨_, rfl⟩, _, rfl⟩
  simp [acceptCount, frameLen, Config.encLen]
  omega

theorem witness_FrameCompletesWhenTheSinkAccepts :
    let pre : List Input := .host 0x0400000000#38 :: List.replicate (frameLen Config.padLen) (.sink true)
    let s : State := { State.reset with busy := true, inputs := pre }
    s.inputs = pre ++ [] ∧ NoReset pre ∧ s.busy = true ∧ s.cur < frameLen Config.padLen ∧
    frameLen Config.padLen ≤ acceptCount pre + s.cur := by
  refine ⟨by simp, by simp [NoReset, List.mem_replicate], rfl, by simp [frameLen, Config.encLen], by simp [acceptCount]⟩

/-- Coordinates at both ends of the range that clips as the source does. -/
theorem witness_DrawClipsAsTheSourceDoes :
    ({ State.reset with inputs := hostInputs (expand 0 (.draw (-224) 255 1#24)) } : State).inputs =
      hostInputs (expand 0 (.draw (-224) 255 1#24)) ++ [] ∧ Drawable (-224) (-248) ∧ Drawable 255 255 := by decide

theorem witness_BlankStartsABlackFrame :
    ({ State.reset with inputs := hostInputs (expand 0 .blank) } : State).inputs = hostInputs (expand 0 .blank) ++ [] ∧
    State.reset.busy = false := by decide

theorem witness_ByteLanesAreLittleEndian : BitVec.toNat 0x1C#5 % 4 = 0 ∧ (3 : Nat) < 4 ∧ (7 : Nat) < 8 := by decide

end Sys2Proof.Tests
end

section
/-! The parts of a frame and their lengths (00_scope.md R5, 42_protocol_encoder.md R103 to R105). -/

namespace Sys2Proof.Machine

/-- ENC_LEN (R103): the 768 bit groups of 16 bytes each. -/
theorem encodePayload_serialize_length (S : Cells) : (encodePayload (serialize S)).length = Config.encLen := by
  rw [encodePayload_length, serialize_length]

/-- What a frame holds after its encoded payload is the latch gap (R104, R105). -/
theorem frame_drop_encLen (pad : Nat) (S : Cells) : (frame pad S).drop Config.encLen = latchGap pad :=
  List.drop_left' (encodePayload_serialize_length S)

/-- Settles O41: the lengths of the frame's two parts, and the latch gap as what is left after the first of them. -/
theorem frameLengthIsFixed : Obligations.FrameLengthIsFixed := fun pad S =>
  ⟨encodePayload_serialize_length S, frame_length pad S, frame_drop_encLen pad S⟩

end Sys2Proof.Machine
end

section
/-! What a transaction and a step without a reset can do, as named cases: the state's writers are read off them (20_memory.md R50, R54). -/

namespace Sys2Proof.Machine

/-- The transactions of EV2, EV3 and EV4 (60_exceptions.md R141): a write to a read-only register, and any access at a reserved or a
misaligned offset. -/
def ReportsBadAccess (i : Instr) : Prop :=
  (∃ d, i = .wrFrameCount d ∨ i = .wrPadLen d) ∨ (∃ off, i = .rdRsvd off ∨ i = .rdMis1 off ∨ i = .rdMis2 off) ∨
  ∃ off d, i = .wrRsvd off d ∨ i = .wrMis1 off d ∨ i = .wrMis2 off d

/-- The transaction asks for a frame: a write of CTRL with DATA[0] = 1 (42_protocol_encoder.md R100). -/
def RequestsStart (i : Instr) : Prop := ∃ data, dataStart data = true ∧ i = .wrCtrl data

/-- The next states of a transaction, by what it writes; `txnEffect_effect` says that there is no other. -/
inductive TxnEffect (s : State) : Instr → State → Prop where
  | noStart (data : Word) (hd : dataStart data = false) : TxnEffect s (.wrCtrl data) { s with pix := pixAtStart data s }
  | startDropped (data : Word) (hd : dataStart data = true) (hb : s.busy = true) :
      TxnEffect s (.wrCtrl data) { s with pix := pixAtStart data s, sd := true }
  | startAccepted (data : Word) (hd : dataStart data = true) (hb : s.busy = false) :
      TxnEffect s (.wrCtrl data) { s with pix := pixAtStart data s, snap := pixAtStart data s, cur := 0, busy := true }
  | acknowledged (data : Word) :
      TxnEffect s (.wrStatus data) { s with sd := s.sd && !dataClrSd data, ba := s.ba && !dataClrBa data }
  | posWritten (data : Word) : TxnEffect s (.wrPos data) { s with pos := dataPos data }
  | pixelWritten (data : Word) :
      TxnEffect s (.wrPixel data) { s with pix := writeCell s.pix s.pos.col.toNat s.pos.row.toNat (dataPixel data) }
  | badAccess (i : Instr) (hi : ReportsBadAccess i) :
      TxnEffect s i { s with ba := true, reads := if i.isWrite then s.reads else s.reads ++ [0#32] }
  | read (i : Instr) (hi : i.isWrite = false) (w : Word) : TxnEffect s i (s.respond w)

/-- A CTRL write is the clear, if asked for, and then the START request, if asked for (40_frame_store.md R80). -/
theorem effect_wrCtrl (data : Word) (s : State) : effect (.wrCtrl data) s =
    if dataStart data then startRequest (s.setPix (pixAtStart data s)) else s.setPix (pixAtStart data s) := by
  have hclear : (if dataClear data then clearAction s else s) = s.setPix (pixAtStart data s) := by
    cases hc : dataClear data <;> simp [pixAtStart, hc] <;> rfl
  simp only [effect, exec, execWrCtrl, hclear]

theorem txnEffect_wrCtrl (data : Word) (s : State) : TxnEffect s (.wrCtrl data) (effect (.wrCtrl data) s) := by
  rw [effect_wrCtrl]
  cases hd : dataStart data
  · exact .noStart data hd
  · rcases startRequest_cases (s.setPix (pixAtStart data s)) with ⟨hb, e⟩ | ⟨hb, e⟩
    · simpa only [if_true, e] using .startDropped data hd hb
    · simpa only [if_true, e] using .startAccepted data hd hb

/-- Everything a transaction can do. -/
theorem txnEffect_effect (i : Instr) (s : State) : TxnEffect s i (effect i s) := by
  cases i with
  | wrCtrl data => exact txnEffect_wrCtrl data s
  | wrStatus data =>
    have e : effect (.wrStatus data) s = _ := acknowledge_eq data s
    exact e ▸ .acknowledged data
  | wrPos data => exact .posWritten data
  | wrPixel data => exact .pixelWritten data
  | wrFrameCount d | wrPadLen d => exact .badAccess _ (.inl ⟨d, by simp⟩)
  | rdRsvd off | rdMis1 off | rdMis2 off => exact .badAccess _ (.inr (.inl ⟨off, by simp⟩))
  | wrRsvd off d | wrMis1 off d | wrMis2 off d => exact .badAccess _ (.inr (.inr ⟨off, d, by simp⟩))
  | rdCtrl | rdStatus | rdPos | rdPixel | rdFrameCount | rdPadLen => exact .read _ rfl _

/-- The next step performs at most one transaction. -/
theorem Performs.unique {s : State} {i j : Instr} (hi : Performs s i) (hj : Performs s j) : i = j := by
  obtain ⟨txn, rest, h, rfl⟩ := hi
  obtain ⟨txn', rest', h', rfl⟩ := hj
  cases h.symm.trans h'
  rfl

theorem Performs.head?_ne_sink {s : State} {i : Instr} (hi : Performs s i) (a : Bool) : s.inputs.head? ≠ some (.sink a) := by
  obtain ⟨txn, rest, h, -⟩ := hi
  simp [h]

theorem Performs.next_eq {s t : State} {i : Instr} (hi : Performs s i) (h : step s = .next t) :
    ∃ rest, t = effect i (s.setInputs rest) := by
  obtain ⟨txn, rest, hin, rfl⟩ := hi
  rw [step_host hin] at h
  cases h
  exact ⟨rest, rfl⟩

theorem acceptsStart_iff {s : State} {i : Instr} (hi : Performs s i) : AcceptsStart s ↔ s.busy = false ∧ RequestsStart i := by
  constructor
  · rintro ⟨hb, data, hd, hp⟩
    exact ⟨hb, data, hd, hi.unique hp⟩
  · rintro ⟨hb, data, hd, rfl⟩
    exact ⟨hb, data, hd, hi⟩

/-- The next states of a step without a reset, by the agent that moves; `stepEffect_of_step` says that there is no other. -/
inductive StepEffect (s : State) : State → Prop where
  | host {t : State} (i : Instr) (rest : List Input) (hp : Performs s i) (he : TxnEffect (s.setInputs rest) i t) : StepEffect s t
  | emit (rest : List Input) (hb : s.busy = true) (hs : s.inputs.head? = some (.sink true)) :
      StepEffect s (emit Config.padLen (s.setInputs rest))
  | idle (rest : List Input) (hp : ∀ i, ¬Performs s i) (hs : s.busy = false ∨ s.inputs.head? ≠ some (.sink true)) :
      StepEffect s (s.setInputs rest)

/-- Everything a step without a reset can do. -/
theorem stepEffect_of_step {s t : State} (h : step s = .next t) (hr : s.inputs.head? ≠ some .rst) : StepEffect s t := by
  rcases step_cases h with ⟨hi, ht⟩ | ⟨txn, rest, hi, ht⟩ | ⟨a, rest, hi, ht⟩ | ⟨rest, hi, ht⟩
  · rw [ht]
    exact .idle s.inputs (by simp [Performs, hi]) (by simp [hi])
  · rw [ht]
    exact .host _ rest ⟨txn, rest, hi, rfl⟩ (txnEffect_effect _ _)
  · rcases sinkChoice_cases Config.padLen a (s.setInputs rest) with ⟨hb, ha, e⟩ | ⟨hba, e⟩
    · rw [ht, e]
      exact .emit rest hb (by simp [hi, ha])
    · rw [ht, e]
      exact .idle rest (by simp [Performs, hi]) (by simpa [hi] using hba)
  · simp [hi] at hr

@[simp] theorem pixAtStart_setInputs (data : Word) (s : State) (l : List Input) : pixAtStart data (s.setInputs l) = pixAtStart data s := rfl

end Sys2Proof.Machine
end

section
/-! The invariants (a) and (b) of 10_state.md R33. -/

namespace Sys2Proof.Machine

/-- CUR = 0 is inside every frame, since a frame has at least its encoded payload (00_scope.md R6). -/
theorem cursorInv_of_cur_eq_zero {s : State} (h : s.cur = 0) : CursorInv s :=
  ⟨fun _ => h, by simp [h, frameLen, Config.encLen]⟩

/-- The invariant speaks of BUSY and CUR alone. -/
theorem CursorInv.congr {s t : State} (hs : CursorInv s) (hb : t.busy = s.busy) (hc : t.cur = s.cur) : CursorInv t := by
  rwa [CursorInv, hb, hc]

theorem CursorInv.txnEffect {s t : State} {i : Instr} (hs : CursorInv s) (he : TxnEffect s i t) : CursorInv t := by
  cases he with
  | startAccepted data hd hb => exact cursorInv_of_cur_eq_zero rfl
  | noStart | startDropped | acknowledged | posWritten | pixelWritten | badAccess | read => exact hs.congr rfl rfl

/-- EMIT moves the cursor to the next byte of the frame, or back to 0 with the last one (42_protocol_encoder.md R106). -/
theorem CursorInv.emit {s : State} (hs : CursorInv s) (hb : s.busy = true) : CursorInv (emit Config.padLen s) := by
  rcases emit_cases Config.padLen s with ⟨-, e⟩ | ⟨hne, e⟩
  · exact cursorInv_of_cur_eq_zero (by rw [e])
  · obtain ⟨-, hlt⟩ := hs
    rw [e]
    exact ⟨by simp [hb], show s.cur + 1 < frameLen Config.padLen by omega⟩

theorem CursorInv.sinkChoice {s : State} (hs : CursorInv s) (a : Bool) : CursorInv (sinkChoice Config.padLen a s) := by
  rcases sinkChoice_cases Config.padLen a s with ⟨hb, -, e⟩ | ⟨-, e⟩ <;> rw [e]
  · exact hs.emit hb
  · exact hs

/-- Settles O36: the host, the sink and reset each keep the invariant. -/
theorem stepKeepsCursorInvariant : Obligations.StepKeepsCursorInvariant := by
  intro s t hs h
  have hs' : ∀ rest, CursorInv (s.setInputs rest) := fun _ => hs.congr rfl rfl
  rcases step_cases h with ⟨-, rfl⟩ | ⟨txn, rest, -, rfl⟩ | ⟨a, rest, -, rfl⟩ | ⟨rest, -, rfl⟩
  · exact hs
  · exact (hs' rest).txnEffect (txnEffect_effect _ _)
  · exact (hs' rest).sinkChoice a
  · exact cursorInv_of_cur_eq_zero (resetAction_cur _)

/-- Settles O37: CUR is 0 after reset. -/
theorem resetHasCursorInvariant : Obligations.ResetHasCursorInvariant := cursorInv_of_cur_eq_zero State.reset_cur

end Sys2Proof.Machine
end

section
/-! Which transactions write BUSY, SNAP, the sticky flags, PIX and POS (10_state.md R14 to R23). -/

namespace Sys2Proof.Machine

theorem ReportsBadAccess.not_requestsStart {i : Instr} (hi : ReportsBadAccess i) : ¬RequestsStart i := by
  rintro ⟨data, -, rfl⟩
  simp [ReportsBadAccess] at hi

theorem not_requestsStart_of_read {i : Instr} (hi : i.isWrite = false) : ¬RequestsStart i := by
  rintro ⟨data, -, rfl⟩
  cases hi

/-- FRAME_COUNT is EMIT's alone (10_state.md R22). -/
theorem TxnEffect.frameCount_eq {i : Instr} {s t : State} (he : TxnEffect s i t) : t.frameCount = s.frameCount := by
  cases he <;> rfl

/-- BUSY after a transaction: no transaction clears it, and a START request sets it (10_state.md R19). -/
theorem TxnEffect.busy_iff {i : Instr} {s t : State} (he : TxnEffect s i t) : t.busy = true ↔ s.busy = true ∨ RequestsStart i := by
  cases he with
  | noStart data hd => simp [RequestsStart, hd]
  | startDropped data hd hb => simp [hb]
  | startAccepted data hd hb => simp [RequestsStart, hd]
  | acknowledged | posWritten | pixelWritten => simp [RequestsStart]
  | badAccess _ hi => simp [hi.not_requestsStart]
  | read _ hi => simp [not_requestsStart_of_read hi]

/-- An accepted START snapshots the store as the clear of the same write left it, and rewinds the cursor (42_protocol_encoder.md R100). -/
theorem effect_startAccepted {data : Word} {s : State} (hd : dataStart data = true) (hb : s.busy = false) :
    effect (.wrCtrl data) s = { s with pix := pixAtStart data s, snap := pixAtStart data s, cur := 0, busy := true } := by
  simp only [effect_wrCtrl, hd, if_true, startRequest, State.setPix_busy, hb]
  rfl

/-- SNAP has no other writer than an accepted START (10_state.md R17). -/
theorem TxnEffect.snap_eq {i : Instr} {s t : State} (he : TxnEffect s i t) (hn : ¬(s.busy = false ∧ RequestsStart i)) :
    t.snap = s.snap := by
  cases he with
  | startAccepted data hd hb => exact absurd ⟨hb, data, hd, rfl⟩ hn
  | noStart | startDropped | acknowledged | posWritten | pixelWritten | badAccess | read => rfl

/-- SD is set by a START request while a frame is in flight and by nothing else (10_state.md R20). -/
theorem TxnEffect.startDropped_of_sd {i : Instr} {s t : State} (he : TxnEffect s i t) (h0 : s.sd = false) (h1 : t.sd = true) :
    s.busy = true ∧ RequestsStart i := by
  cases he with
  | startDropped data hd hb => exact ⟨hb, data, hd, rfl⟩
  | noStart | startAccepted | acknowledged | posWritten | pixelWritten | badAccess | read => simp [h0] at h1

/-- BA is set by the bad accesses alone (R21). -/
theorem TxnEffect.reportsBadAccess_of_ba {i : Instr} {s t : State} (he : TxnEffect s i t) (h0 : s.ba = false) (h1 : t.ba = true) :
    ReportsBadAccess i := by
  cases he with
  | badAccess _ hi => exact hi
  | noStart | startDropped | startAccepted | acknowledged | posWritten | pixelWritten | read => simp [h0] at h1

/-- SD is cleared by a STATUS write that names it and by nothing else (R20). -/
theorem TxnEffect.wrStatus_of_not_sd {i : Instr} {s t : State} (he : TxnEffect s i t) (h1 : s.sd = true) (h0 : t.sd = false) :
    ∃ data, dataClrSd data = true ∧ i = .wrStatus data := by
  cases he with
  | acknowledged data => exact ⟨data, by simpa [h1] using h0, rfl⟩
  | noStart | startDropped | startAccepted | posWritten | pixelWritten | badAccess | read => simp [h1] at h0

/-- BA is cleared by a STATUS write that names it and by nothing else (R21). -/
theorem TxnEffect.wrStatus_of_not_ba {i : Instr} {s t : State} (he : TxnEffect s i t) (h1 : s.ba = true) (h0 : t.ba = false) :
    ∃ data, dataClrBa data = true ∧ i = .wrStatus data := by
  cases he with
  | acknowledged data => exact ⟨data, by simpa [h1] using h0, rfl⟩
  | noStart | startDropped | startAccepted | posWritten | pixelWritten | badAccess | read => simp [h1] at h0

/-- PIX has the writers WR PIXEL and CLEAR (R14). -/
theorem TxnEffect.writesPix_of_ne {i : Instr} {s t : State} (he : TxnEffect s i t) (h : t.pix ≠ s.pix) :
    ∃ data, i = .wrPixel data ∨ (dataClear data = true ∧ i = .wrCtrl data) := by
  have hclear : ∀ data, pixAtStart data s ≠ s.pix → dataClear data = true := by
    simp +contextual [pixAtStart]
  cases he with
  | noStart data | startDropped data | startAccepted data => exact ⟨data, .inr ⟨hclear data h, rfl⟩⟩
  | pixelWritten data => exact ⟨data, .inl rfl⟩
  | acknowledged | posWritten | badAccess | read => exact absurd rfl h

/-- POS has the one writer WR POS (R23). -/
theorem TxnEffect.wrPos_of_ne {i : Instr} {s t : State} (he : TxnEffect s i t) (h : t.pos ≠ s.pos) : ∃ data, i = .wrPos data := by
  cases he with
  | posWritten data => exact ⟨data, rfl⟩
  | noStart | startDropped | startAccepted | acknowledged | pixelWritten | badAccess | read => exact absurd rfl h

end Sys2Proof.Machine
end

section
/-! The writers of the state's elements over one step without a reset. -/

namespace Sys2Proof.Machine

/-- Settles O24: EMIT and an idle step leave both flags, so a change is a transaction's. -/
theorem stickyFlagWriters : Obligations.StickyFlagWriters := by
  intro s t h hr
  cases stepEffect_of_step h hr with
  | host i rest hp he =>
    refine ⟨fun h0 h1 => ?_, fun h0 h1 => ⟨i, hp, he.reportsBadAccess_of_ba h0 h1⟩, fun h1 h0 => ?_, fun h1 h0 => ?_⟩
    · obtain ⟨hb, data, hd, rfl⟩ := he.startDropped_of_sd h0 h1
      exact ⟨hb, data, hd, hp⟩
    · obtain ⟨data, hd, rfl⟩ := he.wrStatus_of_not_sd h1 h0
      exact ⟨data, hd, hp⟩
    · obtain ⟨data, hd, rfl⟩ := he.wrStatus_of_not_ba h1 h0
      exact ⟨data, hd, hp⟩
  | emit | idle => simp +contextual

/-- Settles O25: a transaction can only raise BUSY and EMIT only lower it, and the counter moves in EMIT's last step. -/
theorem busyAndFrameCountWriters : Obligations.BusyAndFrameCountWriters := by
  intro s t h hr
  cases stepEffect_of_step h hr with
  | host i rest hp he =>
    have hkeeps : s.busy = true → t.busy = true := fun hb => he.busy_iff.2 (.inl hb)
    refine ⟨fun hb => ?_, fun hb => ?_, ?_⟩
    · simp [he.busy_iff, acceptsStart_iff hp, hb]
    · simp [hkeeps hb, hp.head?_ne_sink]
    · rw [he.frameCount_eq, if_neg (by rintro ⟨hb, hb'⟩; simp [hkeeps hb] at hb')]
      rfl
  | emit rest hb hs =>
    rcases emit_cases Config.padLen (s.setInputs rest) with ⟨hc, e⟩ | ⟨hc, e⟩ <;>
      rw [State.setInputs_cur] at hc <;> simp [e, hb, hs, hc]
  | idle rest hp hs =>
    have hstart : ¬AcceptsStart s := fun ⟨_, _, _, hp'⟩ => hp _ hp'
    refine ⟨fun hb => ?_, fun hb => ?_, ?_⟩
    · simp [hb, hstart]
    · have hno : s.inputs.head? ≠ some (.sink true) := hs.resolve_left (by simp [hb])
      simp [hb, hno]
    · simp

/-- Settles O26: EMIT and an idle step leave SNAP, and a transaction writes it only as an accepted START. -/
theorem snapshotWriters : Obligations.SnapshotWriters := by
  intro s t h hr
  refine ⟨fun hn => ?_, fun data hb hd hp => ?_, fun i hb hp => ?_⟩
  · cases stepEffect_of_step h hr with
    | host i rest hp he => exact he.snap_eq (mt (acceptsStart_iff hp).2 hn)
    | emit | idle => simp
  · obtain ⟨rest, rfl⟩ := hp.next_eq h
    simp [effect_startAccepted (s := s.setInputs rest) hd hb]
  · obtain ⟨rest, rfl⟩ := hp.next_eq h
    exact effect_while_busy i (s.setInputs rest) hb

/-- Settles O27: EMIT and an idle step leave PIX and POS, so a change is a transaction's. -/
theorem pixelStoreAndPosWriters : Obligations.PixelStoreAndPosWriters := by
  intro s t h hr
  cases stepEffect_of_step h hr with
  | host i rest hp he =>
    refine ⟨fun hne => ?_, fun hne => ?_⟩
    · obtain ⟨data, rfl | ⟨hd, rfl⟩⟩ := he.writesPix_of_ne hne
      · exact ⟨data, .inl hp⟩
      · exact ⟨data, .inr ⟨hd, hp⟩⟩
    · obtain ⟨data, rfl⟩ := he.wrPos_of_ne hne
      exact ⟨data, hp⟩
  | emit | idle => simp

end Sys2Proof.Machine
end

section
/-! A frame in flight: what a run without a reset does to it, byte by byte (20_memory.md R55, 42_protocol_encoder.md R106, R107). -/

namespace Sys2Proof.Machine

theorem runSteps_one {s t : State} (h : step s = .next t) : runSteps 1 s = .next t := runSteps_succ 0 h

theorem runSteps_two {s t u : State} (h : step s = .next t) (h' : step t = .next u) : runSteps 2 s = .next u :=
  (runSteps_succ 1 h).trans (runSteps_one h')

/-- The `n` bytes from byte `c` on of the frame of an array (42_protocol_encoder.md R108). -/
def frameBytes (S : Cells) (c n : Nat) : List Byte := (List.range' c n).map (outByte S)

@[simp] theorem frameBytes_zero (S : Cells) (c : Nat) : frameBytes S c 0 = [] := rfl

@[simp] theorem frameBytes_one (S : Cells) (c : Nat) : frameBytes S c 1 = [outByte S c] := rfl

theorem frameBytes_add (S : Cells) (c m n : Nat) : frameBytes S c (m + n) = frameBytes S c m ++ frameBytes S (c + m) n := by
  simp only [frameBytes, ← List.range'_append_1, List.map_append]

/-- The frame in flight at `s` has handed over `n` more bytes at `t` and is still in flight. -/
structure AdvancedBy (n : Nat) (s t : State) : Prop where
  busy : t.busy = true
  snap : t.snap = s.snap
  cur : t.cur = s.cur + n
  frameCount : t.frameCount = s.frameCount
  out : t.out = s.out ++ frameBytes s.snap s.cur n

theorem AdvancedBy.trans {m n : Nat} {s t u : State} (h : AdvancedBy m s t) (h' : AdvancedBy n t u) : AdvancedBy (m + n) s u where
  busy := h'.busy
  snap := h'.snap.trans h.snap
  cur := by rw [h'.cur, h.cur, Nat.add_assoc]
  frameCount := h'.frameCount.trans h.frameCount
  out := by rw [h'.out, h.out, h.snap, h.cur, frameBytes_add, List.append_assoc]

theorem advancedBy_zero_setInputs {s : State} (hb : s.busy = true) (l : List Input) : AdvancedBy 0 s (s.setInputs l) :=
  ⟨hb, rfl, rfl, rfl, by simp⟩

/-- A transaction does not move a frame in flight (20_memory.md R55). -/
theorem advancedBy_zero_effect (i : Instr) {s : State} (hb : s.busy = true) : AdvancedBy 0 s (effect i s) := by
  obtain ⟨hout, hcount, -, -⟩ := effect_frame i s
  obtain ⟨hsnap, hcur, hbusy⟩ := effect_while_busy i s hb
  exact ⟨hbusy, hsnap, hcur, hcount, by simp [hout]⟩

/-- EMIT before the last byte moves it by one (42_protocol_encoder.md R106). -/
theorem advancedBy_one_emit {s : State} (hb : s.busy = true) (hc : s.cur ≠ frameLen Config.padLen - 1) :
    AdvancedBy 1 s (emit Config.padLen s) := by
  rcases emit_cases Config.padLen s with ⟨hlast, -⟩ | ⟨-, e⟩
  · exact absurd hlast hc
  · rw [e]
    exact ⟨hb, rfl, rfl, rfl, by simp⟩

/-- An acceptance while a frame is in flight runs EMIT (42_protocol_encoder.md R107). -/
theorem step_emit {s : State} {rest : List Input} (hi : s.inputs = .sink true :: rest) (hb : s.busy = true) :
    step s = .next (emit Config.padLen (s.setInputs rest)) := by
  rw [step_sink hi, sinkChoice, State.setInputs_busy, hb]
  rfl

/-- One input other than a reset moves a frame in flight by as many bytes as the sink accepts in it, short of the last. -/
theorem step_advances {s : State} {i : Input} {rest : List Input} (hi : s.inputs = i :: rest) (hr : i ≠ .rst) (hb : s.busy = true)
    (hc : acceptCount [i] + s.cur < frameLen Config.padLen) :
    ∃ t, step s = .next t ∧ AdvancedBy (acceptCount [i]) s t ∧ t.inputs = rest := by
  have hin := advancedBy_zero_setInputs hb rest
  match i with
  | .host txn =>
    obtain ⟨-, -, hrest, -⟩ := effect_frame (decode txn) (s.setInputs rest)
    exact ⟨_, step_host hi, hin.trans (advancedBy_zero_effect _ hin.busy), hrest⟩
  | .sink false => exact ⟨_, step_sink hi, by simpa [sinkChoice, acceptCount] using hin, by simp [sinkChoice]⟩
  | .sink true =>
    have hone : acceptCount [.sink true] = 1 := rfl
    have hne : s.cur ≠ frameLen Config.padLen - 1 := by omega
    exact ⟨_, step_emit hi hb, hin.trans (advancedBy_one_emit hin.busy hne), emit_inputs ..⟩
  | .rst => exact absurd rfl hr

/-- Inputs without a reset move a frame in flight by as many bytes as the sink accepts in them, short of the last
(42_protocol_encoder.md R107). -/
theorem runSteps_advances {s : State} {pre rest : List Input} (hi : s.inputs = pre ++ rest) (hr : NoReset pre) (hb : s.busy = true)
    (hc : acceptCount pre + s.cur < frameLen Config.padLen) :
    ∃ t, runSteps pre.length s = .next t ∧ AdvancedBy (acceptCount pre) s t ∧ t.inputs = rest := by
  induction pre generalizing s with
  | nil => exact ⟨s, runSteps_zero s, advancedBy_zero_setInputs hb s.inputs, hi⟩
  | cons i pre ih =>
    have hcount : acceptCount (i :: pre) = acceptCount [i] + acceptCount pre := List.count_append (l₁ := [i])
    obtain ⟨hri, hrpre⟩ : i ≠ .rst ∧ NoReset pre := by simpa [NoReset, eq_comm] using hr
    obtain ⟨u, hu, hadv, hin⟩ := step_advances hi hri hb (by omega)
    obtain ⟨t, ht, hadv', hrest⟩ := ih hin hrpre hadv.busy (by rw [hadv.cur]; omega)
    exact ⟨t, (runSteps_succ _ hu).trans ht, hcount ▸ hadv.trans hadv', hrest⟩

/-- What a step that hands over a byte leaves: one more byte in OUT, and BUSY unless the byte was the frame's last (R106). -/
theorem step_accept {s : State} {rest : List Input} (hi : s.inputs = .sink true :: rest) (hb : s.busy = true) :
    ∃ t, step s = .next t ∧ t.out = s.out ++ [outByte s.snap s.cur] ∧ t.busy = decide (s.cur ≠ frameLen Config.padLen - 1) := by
  refine ⟨_, step_emit hi hb, emit_out .., ?_⟩
  rcases emit_cases Config.padLen (s.setInputs rest) with ⟨hc, e⟩ | ⟨hc, e⟩ <;> rw [State.setInputs_cur] at hc
  · simp [e, hc]
  · simp [e, hc, hb]

/-- Inputs without a reset that end in an acceptance: the bytes they append and BUSY after them are functions of SNAP, of CUR and of the
number of acceptances alone, so the host has no part in them (20_memory.md R55). -/
theorem runSteps_out_and_busy {s t : State} {pre rest : List Input} (hi : s.inputs = pre ++ rest) (hr : NoReset pre)
    (hb : s.busy = true) (hc : acceptCount pre + s.cur ≤ frameLen Config.padLen) (hlast : pre.getLast? = some (.sink true))
    (ht : runSteps pre.length s = .next t) :
    t.out = s.out ++ frameBytes s.snap s.cur (acceptCount pre) ∧
      t.busy = decide (s.cur + acceptCount pre ≠ frameLen Config.padLen) := by
  obtain ⟨init, rfl⟩ := List.getLast?_eq_some_iff.1 hlast
  have hcount : acceptCount (init ++ [.sink true]) = acceptCount init + 1 := List.count_append
  have hrinit : NoReset init := fun hmem => hr (List.mem_append_left _ hmem)
  obtain ⟨u, hu, hadv, hin⟩ := runSteps_advances (hi.trans (List.append_assoc ..)) hrinit hb (by omega)
  obtain ⟨t', ht', hout, hbusy⟩ := step_accept hin hadv.busy
  rw [List.length_append, runSteps_add _ _ hu, List.length_singleton, runSteps_one ht'] at ht
  cases ht
  constructor
  · rw [hout, hadv.out, hadv.snap, hadv.cur, hcount, frameBytes_add, frameBytes_one, List.append_assoc]
  · rw [hbusy, hadv.cur, hcount]
    exact decide_eq_decide.2 (not_congr (by omega))

/-- Settles O48: both runs append the same bytes, since SNAP, CUR and the number of acceptances are the same. -/
theorem hostCannotChangeTheFrameInFlight : Obligations.HostCannotChangeTheFrameInFlight := by
  intro s s' t t' pre pre' rest rest' hi hi' hr hr' hb hb' hsnap hcur hcount hc hlast hlast' ht ht'
  obtain ⟨hout, hbusy⟩ := runSteps_out_and_busy hi hr hb hc hlast ht
  obtain ⟨hout', hbusy'⟩ := runSteps_out_and_busy hi' hr' hb' (hcount ▸ hcur ▸ hc) hlast' ht'
  rw [← hsnap, ← hcur, ← hcount] at hout'
  rw [← hcur, ← hcount] at hbusy'
  exact ⟨_, hout, hout', hbusy.trans hbusy'.symm⟩

end Sys2Proof.Machine
end

section
/-! Transactions made twice or one after the other (20_memory.md R50, R51, R54, R56). -/

namespace Sys2Proof.Machine

/-- Settles O20: a read of a register changes nothing that the read depends on, and a read that reaches no register responds 0 and sets a
flag that is then set already. -/
theorem readsAreIdempotent : Obligations.ReadsAreIdempotent := by
  intro i s t hread h
  cases i with
  | rdCtrl | rdStatus | rdPos | rdPixel | rdFrameCount | rdPadLen =>
    cases h
    exact ⟨_, rfl, rfl⟩
  | rdRsvd | rdMis1 | rdMis2 =>
    cases h
    exact ⟨0#32, rfl, rfl⟩
  | wrCtrl | wrStatus | wrPos | wrPixel | wrFrameCount | wrPadLen | wrRsvd | wrMis1 | wrMis2 => cases hread

/-- Acknowledging the same flags twice is acknowledging them once (43_status_registers.md R122). -/
theorem acknowledge_acknowledge (data : Word) (s : State) : acknowledge data (acknowledge data s) = acknowledge data s := by
  simp only [acknowledge_eq, Bool.and_assoc, Bool.and_self]

/-- Settles O21: each of the three writes gives its element a value that it keeps when the write is made again. -/
theorem posPixelAndStatusWritesAreIdempotent : Obligations.PosPixelAndStatusWritesAreIdempotent := by
  rintro i s t ⟨data, rfl | rfl | rfl⟩ h <;> cases h
  · rfl
  · exact congrArg (fun p => Host.Outcome.next (s.setPix p)) (writeCell_writeCell ..)
  · exact congrArg Host.Outcome.next (acknowledge_acknowledge data s)

/-- RD PIXEL of a cell that WR PIXEL wrote gives DATA[23:0] (40_frame_store.md R84, R85). -/
theorem pixelWord_dataPixel (data : Word) : pixelWord (dataPixel data) = data &&& 0x00FFFFFF#32 := by
  have hmask : (data &&& 0x00FFFFFF#32).toNat = data.toNat % 2 ^ 24 := Nat.and_two_pow_sub_one_eq_mod data.toNat 24
  rw [dataPixel_eq, pixelWord]
  apply BitVec.eq_of_toNat_eq
  rw [BitVec.toNat_setWidth, BitVec.toNat_setWidth, hmask]
  omega

/-- What the written cell reads back as; an out-of-range pair names no cell. -/
theorem readCell_writeCell_same (S : Cells) (v : Pixel) (c r : Nat) :
    readCell (writeCell S c r v) c r = if InRange c r then v else 0#24 := by
  by_cases h : InRange c r
  · rw [readCell_writeCell, if_pos ⟨h, rfl, rfl⟩, if_pos h]
  · rw [readCell_of_not_inRange _ h, if_neg h]

/-- Settles O28: both transactions use the same POS, so the read is of the cell just written, or of no cell like the write. -/
theorem pixelWriteIsVisibleToTheNextRead : Obligations.PixelWriteIsVisibleToTheNextRead := by
  intro s w r data rest hi hw hr
  have h1 := step_host hi
  have h2 := step_host (s := effect (.wrPixel data) (s.setInputs (.host r :: rest))) rfl
  rw [hw] at h1
  rw [hr] at h2
  have hv : pixelWord (readCell (writeCell s.pix s.pos.col.toNat s.pos.row.toNat (dataPixel data)) s.pos.col.toNat s.pos.row.toNat)
      = if InRange s.pos.col.toNat s.pos.row.toNat then data &&& 0x00FFFFFF#32 else 0#32 := by
    rw [readCell_writeCell_same, apply_ite pixelWord, pixelWord_dataPixel]
    rfl
  exact ⟨_, _, runSteps_two h1 h2, rfl, hv⟩

/-- Settles O29: the arm of `step` for a host transaction. -/
theorem stepRunsTheDecodedTransaction : Obligations.StepRunsTheDecodedTransaction := by
  rintro s txn rest i hi rfl
  simp only [step, hi]
  rfl

end Sys2Proof.Machine
end

section
/-! A START request and the last byte of a frame, in either order (20_memory.md R57). -/

namespace Sys2Proof.Machine

/-- The last byte of every frame is of the latch gap, since PAD_LEN is not 0 (00_scope.md R6). -/
theorem outByte_last (S : Cells) : outByte S (frameLen Config.padLen - 1) = 0x00#8 :=
  if_pos (by simp only [frameLen, Config.padLen]; omega)

/-- The step that hands over the last byte ends the frame (42_protocol_encoder.md R106). -/
theorem step_last_byte {s : State} {rest : List Input} (hi : s.inputs = .sink true :: rest) (hb : s.busy = true)
    (hc : s.cur = frameLen Config.padLen - 1) :
    step s = .next { s with
      inputs := rest, out := s.out ++ [0x00#8], busy := false, cur := 0, frameCount := s.frameCount + 1#32 } := by
  rw [step_emit hi hb, ← outByte_last s.snap, ← hc]
  rcases emit_cases Config.padLen (s.setInputs rest) with ⟨-, e⟩ | ⟨hne, -⟩
  · rw [e]
    rfl
  · exact absurd hc hne

/-- A START request while a frame is in flight sets SD, after the clear of the same write (42_protocol_encoder.md R100). -/
theorem effect_startDropped {data : Word} {s : State} (hd : dataStart data = true) (hb : s.busy = true) :
    effect (.wrCtrl data) s = { s with pix := pixAtStart data s, sd := true } := by
  rcases startRequest_cases (s.setPix (pixAtStart data s)) with ⟨-, e⟩ | ⟨hb', -⟩
  · rw [effect_wrCtrl, if_pos hd, e]
    rfl
  · simp [hb] at hb'

/-- Settles O33: the byte ends the frame in either place, and BUSY when the START is made decides whether it is accepted. -/
theorem lastByteAndStartInEitherOrder : Obligations.LastByteAndStartInEitherOrder := by
  intro s txn rest hdec hb hc
  have hd : dataStart 0x1#32 = true := by decide
  constructor
  · have h1 := step_last_byte (s := { s with inputs := .sink true :: .host txn :: rest }) rfl hb hc
    have h2 := runSteps_two h1 (step_host rfl)
    rw [hdec, effect_startAccepted hd rfl] at h2
    exact ⟨_, h2, by simp [pixAtStart, dataClear, hb]⟩
  · have h1 : step { s with inputs := .host txn :: .sink true :: rest } = .next { s with inputs := .sink true :: rest, sd := true } := by
      rw [step_host rfl, hdec]
      exact congrArg Host.Outcome.next (effect_startDropped hd hb)
    exact ⟨_, runSteps_two h1 (step_last_byte rfl hb hc), rfl⟩

end Sys2Proof.Machine
end

section
/-! The byte lanes of a register word, and the line levels of a symbol (20_memory.md R44, R47). -/

namespace Sys2Proof.Machine

/-- The bits of a byte lane (20_memory.md R44). -/
theorem getLsbD_byteLane (w : Word) (k : Nat) {b : Nat} (hb : b < 8) : (byteLane w k).getLsbD b = w.getLsbD (8 * k + b) := by
  simp [byteLane, hb]

/-- Adjacent lanes make the word again, lane 0 lowest. -/
theorem wordOfLanes_byteLane (w : Word) : wordOfLanes (byteLane w 0) (byteLane w 1) (byteLane w 2) (byteLane w 3) = w := by
  have h32 : byteLane w 3 ++ byteLane w 2 = w.extractLsb' 16 16 := BitVec.extractLsb'_append_extractLsb'_eq_extractLsb' rfl
  have h321 : w.extractLsb' 16 16 ++ byteLane w 1 = w.extractLsb' 8 24 := BitVec.extractLsb'_append_extractLsb'_eq_extractLsb' rfl
  have h3210 : w.extractLsb' 8 24 ++ byteLane w 0 = w.extractLsb' 0 32 := BitVec.extractLsb'_append_extractLsb'_eq_extractLsb' rfl
  rw [wordOfLanes, h32, h321, h3210, BitVec.extractLsb'_eq_self]

theorem windowOffset_of_lt {n : Nat} (hn : n < 32) : windowOffset (Config.regBase + n) = some (BitVec.ofNat 5 n) := by
  rw [windowOffset, if_pos ⟨Nat.le_add_right .., Nat.add_lt_add_left hn _⟩, Nat.add_sub_cancel_left]

/-- Settles O52: a lane is eight bits of the word in place, and an aligned register's four lanes do not leave the window. -/
theorem byteLanesAreLittleEndian : Obligations.ByteLanesAreLittleEndian := by
  refine ⟨Nat.mul_mod_right .., fun w k b _ hb => getLsbD_byteLane w k hb, wordOfLanes_byteLane, fun off k halign hk => ⟨rfl, ?_⟩⟩
  have hlt : off.toNat + k < 32 := by have := off.isLt; omega
  rw [laneAddress, Nat.add_assoc, windowOffset_of_lt hlt]

/-- Settles O53: the sixteen levels of each of the two symbols, written out. -/
theorem msbFirstShiftingGivesTheWaveform : Obligations.MsbFirstShiftingGivesTheWaveform := by
  constructor <;> decide

end Sys2Proof.Machine
end

section
/-! The transaction of a word by its offset's row and WE, and the encoder and the decoder as inverses (30_encoding.md R65 to R67, R72). -/

namespace Sys2Proof

/-- The write and the read of a row of R67. -/
def Slot.instr (we : Bool) (off : Offset) (data : Word) : Slot → Instr
  | .mis1 => if we then .wrMis1 off data else .rdMis1 off
  | .mis2 => if we then .wrMis2 off data else .rdMis2 off
  | .rsvd => if we then .wrRsvd off data else .rdRsvd off
  | .ctrl => if we then .wrCtrl data else .rdCtrl
  | .status => if we then .wrStatus data else .rdStatus
  | .pos => if we then .wrPos data else .rdPos
  | .pixel => if we then .wrPixel data else .rdPixel
  | .frameCount => if we then .wrFrameCount data else .rdFrameCount
  | .padLen => if we then .wrPadLen data else .rdPadLen

/-- A word of known fields decodes by its offset's row (30_encoding.md R67). -/
theorem decode_txnWord (we : Bool) (off : Offset) (data : Word) : decode (txnWord we off data) = (slotOf off).instr we off data := by
  cases we
  · rw [decode_txnWord_read, decodeRead]
    cases slotOf off <;> rfl
  · rw [decode_txnWord_write, decodeWrite]
    cases slotOf off <;> rfl

theorem decode_eq_instr (T : Txn) : decode T = (slotOf (fieldOFF T)).instr (fieldWE T) (fieldOFF T) (fieldDATA T) := by
  rw [← decode_txnWord, txnWord_fields]

theorem decode_of_slotOf {T : Txn} {off : Offset} {data : Word} {k : Slot} (hoff : off = fieldOFF T) (hdata : data = fieldDATA T)
    (h : slotOf off = k) : decode T = k.instr (fieldWE T) off data := by
  rw [decode_eq_instr, ← hoff, ← hdata, h]

/-- Settles O4: each clause names the row of its offsets. -/
theorem decodingFollowsOffsetRows : Obligations.DecodingFollowsOffsetRows := by
  intro T off hoff data hdata
  have row {k : Slot} (h : slotOf off = k) := decode_of_slotOf hoff hdata h
  refine ⟨fun h => row (slotOf_of_isOdd h), fun ⟨h0, h1⟩ => row (slotOf_of_isHalf ?_), fun h => row (slotOf_of_isReserved ?_),
    fun h => row (congrArg slotOf h), fun h => row (congrArg slotOf h), fun h => row (congrArg slotOf h),
    fun h => row (congrArg slotOf h), fun h => row (congrArg slotOf h), fun h => row (congrArg slotOf h)⟩
  · simp only [Offset.isHalf, h0, h1, Bool.not_false, Bool.and_self]
  · simpa [Offset.isReserved] using h

theorem Slot.instr_wellFormed (we : Bool) (off : Offset) (data : Word) : ((slotOf off).instr we off data).WellFormed := by
  obtain ⟨h, ho⟩ | ⟨h, ho⟩ | ⟨h, ho⟩ | ⟨h, -⟩ | ⟨h, -⟩ | ⟨h, -⟩ | ⟨h, -⟩ | ⟨h, -⟩ | ⟨h, -⟩ := slotOf_cases off
  all_goals rw [h]
  iterate 3 · cases we <;> exact ho
  all_goals cases we <;> rfl

/-- The encoder lays the three fields of R65, with DATA at its canonical value 0 in a read. -/
theorem Slot.encode_instr (we : Bool) (off : Offset) (data : Word) :
    encode ((slotOf off).instr we off data) = txnWord we off (if we then data else 0#32) := by
  obtain ⟨h, -⟩ | ⟨h, -⟩ | ⟨h, -⟩ | ⟨h, rfl⟩ | ⟨h, rfl⟩ | ⟨h, rfl⟩ | ⟨h, rfl⟩ | ⟨h, rfl⟩ | ⟨h, rfl⟩ := slotOf_cases off
  all_goals
    rw [h]
    cases we <;> rfl

theorem txnWord_and (we we' : Bool) (off off' : Offset) (data data' : Word) :
    txnWord we off data &&& txnWord we' off' data' = txnWord (we && we') (off &&& off') (data &&& data') := by
  have hhead : (BitVec.ofBool we ++ off) &&& (BitVec.ofBool we' ++ off') = BitVec.ofBool (we && we') ++ (off &&& off') := by
    rw [BitVec.and_append, BitVec.ofBool_and_ofBool]
  exact BitVec.and_append.trans (congrArg (· ++ (data &&& data')) hhead)

/-- The mask that keeps WE and OFF of a word and sets its DATA to 0 (30_encoding.md R65, R72). -/
theorem and_headMask (T : Txn) : T &&& 0x3F00000000#38 = txnWord (fieldWE T) (fieldOFF T) 0#32 := by
  have hmask : 0x3F00000000#38 = txnWord true 0x1F#5 0#32 := by decide
  have hoff : fieldOFF T &&& 0x1F#5 = fieldOFF T := BitVec.and_allOnes
  conv_lhs => rw [← txnWord_fields T, hmask, txnWord_and, Bool.and_true, hoff, BitVec.and_zero]

/-- Settles O3: the transaction of a word is that of its row, whose encoding has the word's fields. -/
theorem encodeInvertsDecodeUpToReadData : Obligations.EncodeInvertsDecodeUpToReadData := by
  intro T
  rw [decode_eq_instr, Slot.encode_instr, and_headMask]
  refine ⟨Slot.instr_wellFormed .., ?_⟩
  cases h : fieldWE T
  · exact (if_neg (by simpa [fieldWE] using h)).symm
  · rw [if_pos (show T.getLsbD 37 = true from h), if_pos rfl, ← h, txnWord_fields]

/-- Decoding an encoded transaction gives it back (30_encoding.md R65, R67). -/
theorem decode_encode {i : Instr} (h : i.WellFormed) : decode (encode i) = i := by
  cases i with
  | rdRsvd off | wrRsvd off => rw [encode, decode_txnWord, slotOf_of_isReserved h]; rfl
  | rdMis1 off | wrMis1 off => rw [encode, decode_txnWord, slotOf_of_isOdd h]; rfl
  | rdMis2 off | wrMis2 off => rw [encode, decode_txnWord, slotOf_of_isHalf h]; rfl
  | rdCtrl | rdStatus | rdPos | rdPixel | rdFrameCount | rdPadLen => exact decode_txnWord ..
  | wrCtrl | wrStatus | wrPos | wrPixel | wrFrameCount | wrPadLen => exact decode_txnWord ..

/-- The ten-digit spelling of a word has the two high bits clear (30_encoding.md R66). -/
theorem decodeSpelled_setWidth (T : Txn) : decodeSpelled (T.setWidth 40) = .ok (decode T) := by
  have hhigh : (T.setWidth 40).extractLsb' 38 2 = 0#2 := by
    ext k hk
    simp
  rw [decodeSpelled, if_pos hhigh, BitVec.setWidth_setWidth_of_le _ (by decide), BitVec.setWidth_eq]

/-- The five bytes of a spelling, put together, are the spelling (R66). -/
theorem append_spelledBytes (w : BitVec 40) :
    w.extractLsb' 32 8 ++ w.extractLsb' 24 8 ++ w.extractLsb' 16 8 ++ w.extractLsb' 8 8 ++ w.extractLsb' 0 8 = w := by
  have hjoin (k n : Nat) : w.extractLsb' (k + 8) n ++ w.extractLsb' k 8 = w.extractLsb' k (n + 8) :=
    BitVec.extractLsb'_append_extractLsb'_eq_extractLsb' rfl
  rw [hjoin 24 8, hjoin 16 16, hjoin 8 24, hjoin 0 32, BitVec.extractLsb'_eq_self]

/-- Settles O2: the spelling and its five bytes decode as the word does. -/
theorem decodeInvertsEncode : Obligations.DecodeInvertsEncode := by
  intro i h
  have hspelled : decodeSpelled (encodeSpelled i) = .ok i := by rw [encodeSpelled, decodeSpelled_setWidth, decode_encode h]
  refine ⟨decode_encode h, hspelled, ?_⟩
  rw [encodeBytes, decodeBytes, append_spelledBytes, hspelled]

end Sys2Proof
end

section
/-! The rows of the opcode table that match a word, and words written out (spec/opcode_table.json, 30_encoding.md R66). -/

namespace Sys2Proof

/-- Every row's mask lies in WE and OFF, so DATA plays no part in which rows match. -/
theorem hits_eq_hits_head {r : OpcodeRow} (hr : r ∈ opcodeTable) (T : Txn) :
    r.hits T = r.hits (txnWord (fieldWE T) (fieldOFF T) 0#32) := by
  have hmask : ∀ r ∈ opcodeTable, 0x3F00000000#38 &&& r.mask = r.mask := by decide
  rw [← and_headMask, OpcodeRow.hits, OpcodeRow.hits, BitVec.and_assoc, hmask r hr]

theorem Slot.mnemonic_instr (k : Slot) (we : Bool) (off : Offset) (data : Word) :
    (k.instr we off data).mnemonic = (k.instr we 0#5 0#32).mnemonic := by
  cases k <;> cases we <;> rfl

/-- The 64 values of WE and OFF, each with the one row that matches it. -/
theorem filter_hits_head : ∀ (we : Bool) (off : Offset),
    (opcodeTable.filter fun r => r.hits (txnWord we off 0#32)).map (·.mnemonic) = [((slotOf off).instr we 0#5 0#32).mnemonic] := by
  decide

/-- Settles O5: the rows that match a word are those that match its WE and OFF, which is one row. -/
theorem everyWordMatchesItsOpcodeRowAlone : Obligations.EveryWordMatchesItsOpcodeRowAlone := by
  intro T
  have hhead := filter_hits_head (fieldWE T) (fieldOFF T)
  rw [← Slot.mnemonic_instr _ _ (fieldOFF T) (fieldDATA T), ← decode_eq_instr] at hhead
  obtain ⟨r, hr, hname⟩ := List.map_eq_singleton_iff.1 hhead
  have hmem (r' : OpcodeRow) : r' ∈ opcodeTable ∧ r'.hits T = true ↔ r' = r := by
    rw [← List.mem_singleton (a := r'), ← hr, List.mem_filter]
    exact and_congr_right fun h => by rw [hits_eq_hits_head h]
  obtain ⟨hin, hhits⟩ := (hmem r).2 rfl
  exact ⟨r, hin, hhits, hname, fun r' hin' hhits' => (hmem r').1 ⟨hin', hhits'⟩⟩

/-- Settles O1: the twelve words, decoded. -/
theorem writtenWordsDecode : Obligations.WrittenWordsDecode := by
  unfold Obligations.WrittenWordsDecode
  decide

end Sys2Proof
end

section
/-! The bytes of a frame by their index (30_encoding.md R70, R72). -/

namespace Sys2Proof.Machine

/-- A byte of the encoded part is a byte of its bit group (30_encoding.md R70). -/
theorem frame_getElem?_encoded (pad : Nat) (S : Cells) {n : Nat} (hn : n < 12288) :
    (frame pad S)[n]? = (expandByte (physByte S (n / 16)))[n % 16]? := by
  have hlen : n < (encodePayload (serialize S)).length := by
    rw [encodePayload_serialize_length]
    exact hn
  rw [frame, List.getElem?_append_left hlen, encodePayload, getElem?_flatMap_chunks expandByte 16 (by decide) expandByte_length,
    serialize_getElem? S (by omega), Option.bind_some]

/-- A byte after the encoded part is of the latch gap (42_protocol_encoder.md R104). -/
theorem frame_getElem?_gap (pad : Nat) (S : Cells) {n : Nat} (hn : 12288 ≤ n) :
    (frame pad S)[n]? = if n < 12288 + pad then some 0x00#8 else none := by
  have hlen : (encodePayload (serialize S)).length = 12288 := encodePayload_serialize_length S
  rw [frame, List.getElem?_append_right (hlen ▸ hn), hlen, latchGap, List.getElem?_replicate]
  exact if_congr (by omega) rfl rfl

/-- The two bytes of symbol `j` of a bit group (42_protocol_encoder.md R101, R102). -/
theorem expandByte_getElem?_symbol (x : Byte) {j : Nat} (hj : j < 8) :
    (expandByte x)[2 * j]? = some (if x.getLsbD (7 - j) then 0xFF#8 else 0xF0#8) ∧
    (expandByte x)[2 * j + 1]? = some (if x.getLsbD (7 - j) then 0xF0#8 else 0x00#8) := by
  constructor <;> rw [expandByte_getElem? x _ (by omega)]
  · simp
  · simp [Nat.mul_add_div]

/-- Byte `k` of bit group `i` (30_encoding.md R70). -/
theorem frame_getElem?_group (pad : Nat) (S : Cells) {i k : Nat} (hi : i < 768) (hk : k < 16) :
    (frame pad S)[16 * i + k]? = (expandByte (physByte S i))[k]? := by
  rw [frame_getElem?_encoded pad S (by omega), Nat.mul_add_div (by decide), Nat.div_eq_of_lt hk, Nat.add_zero, Nat.mul_add_mod,
    Nat.mod_eq_of_lt hk]

/-- Settles O42: the symbols, and then the latch gap. -/
theorem symbolsStandWhereTheFormatSays : Obligations.SymbolsStandWhereTheFormatSays := by
  intro pad S
  refine ⟨frame_length pad S, fun i j b hi hj hb => ?_, fun n hn hn' => ?_⟩
  · obtain rfl : physByte S i = b := Option.some.inj ((serialize_getElem? S hi).symm.trans hb)
    rw [Nat.add_assoc, frame_getElem?_group pad S hi (by omega), frame_getElem?_group pad S hi (by omega)]
    exact expandByte_getElem?_symbol _ hj
  · rw [frame_getElem?_gap pad S hn, if_pos hn']

/-- The first byte of a symbol is FF or F0 and the second F0 or 00 (42_protocol_encoder.md R101). -/
theorem expandByte_three_values {x b : Byte} {k : Nat} (h : (expandByte x)[k]? = some b) :
    (b = 0xFF#8 ∨ b = 0xF0#8 ∨ b = 0x00#8) ∧ (k % 2 = 0 → b ≠ 0x00#8) ∧ (k % 2 = 1 → b ≠ 0xFF#8) := by
  obtain ⟨hlt, -⟩ := List.getElem?_eq_some_iff.1 h
  rw [expandByte_getElem? x k (by simpa using hlt), Option.some.injEq] at h
  subst h
  obtain hk | hk := Nat.mod_two_eq_zero_or_one k <;> cases x.getLsbD (7 - k / 2) <;> simp [hk]

/-- Settles O44: a byte is of a symbol in the encoded part, and of the latch gap after it. -/
theorem frameBytesAreThreeValues : Obligations.FrameBytesAreThreeValues := by
  intro pad S n b h
  by_cases hn : n < 12288
  · rw [frame_getElem?_encoded pad S hn] at h
    obtain ⟨hthree, heven, hodd⟩ := expandByte_three_values h
    exact ⟨hthree, fun _ hk => heven (by omega), fun hk => hodd (by omega), fun hge => absurd hn (by omega)⟩
  · rw [frame_getElem?_gap pad S (Nat.le_of_not_lt hn)] at h
    obtain ⟨-, rfl⟩ : n < 12288 + pad ∧ 0x00#8 = b := by simpa using h
    exact ⟨.inr (.inr rfl), fun hlt => absurd hlt hn, fun _ => by decide, fun _ => rfl⟩

end Sys2Proof.Machine
end

section
/-! The expansions of DRAW and BLANK (30_encoding.md R75, 40_frame_store.md R86). -/

namespace Sys2Proof.Machine

/-- A `WR POS` line as the host's next transaction (40_frame_store.md R82). -/
theorem step_wrPosLine {s : State} {v : Word} {rest : List Input} (hi : s.inputs = .host (lineTxn (.wr .pos v)) :: rest) :
    step s = .next { s with pos := dataPos v, inputs := rest } := by
  have hdec : decode (lineTxn (.wr .pos v)) = .wrPos v := decode_txnWord_write ..
  rw [step_host hi, hdec]
  rfl

/-- A `WR PIXEL` line as the host's next transaction (40_frame_store.md R84). -/
theorem step_wrPixelLine {s : State} {v : Word} {rest : List Input} (hi : s.inputs = .host (lineTxn (.wr .pixel v)) :: rest) :
    step s = .next { s with pix := writeCell s.pix s.pos.col.toNat s.pos.row.toNat (dataPixel v), inputs := rest } := by
  have hdec : decode (lineTxn (.wr .pixel v)) = .wrPixel v := decode_txnWord_write ..
  rw [step_host hi, hdec]
  rfl

/-- The two bytes of a POS write, put together as DRAW does it, are stored as they are (10_state.md R27). -/
theorem dataPos_append (row col : Byte) : dataPos ((row ++ col).setWidth 32) = ⟨col, row⟩ := by
  have hbyte (k : Nat) (hk : k < 16) : ((row ++ col).setWidth 32).getLsbD k = if k < 8 then col.getLsbD k else row.getLsbD (k - 8) := by
    rw [BitVec.getLsbD_setWidth, BitVec.getLsbD_append, decide_eq_true (by omega), Bool.true_and]
  rw [dataPos, Pos.mk.injEq]
  constructor <;> refine BitVec.eq_of_getLsbD_eq fun k hk => ?_
  · rw [BitVec.getLsbD_extractLsb', hbyte _ (by omega)]
    simp [hk]
  · rw [BitVec.getLsbD_extractLsb', hbyte _ (by omega)]
    simp [hk]

theorem dataPixel_setWidth (v : Pixel) : dataPixel (v.setWidth 32) = v := by
  rw [dataPixel_eq, BitVec.setWidth_setWidth_of_le _ (by decide), BitVec.setWidth_eq]

/-- A coordinate within 256 below the grid's bound is a place of the grid after reduction to 8 bits exactly when it is so itself
(40_frame_store.md R86). -/
theorem eq_toNat_ofInt_iff {x bound : Nat} {c : Int} (hx : x < bound) (hlo : (bound : Int) - 256 ≤ c) (hhi : c ≤ 255) :
    x = (BitVec.ofInt 8 c).toNat ↔ (x : Int) = c := by
  rw [BitVec.toNat_ofInt]
  omega

/-- DRAW, performed: POS and the cell it names. -/
theorem runSteps_draw {s : State} {n : Nat} {c r : Int} {rgb : Pixel} {rest : List Input}
    (hi : s.inputs = hostInputs (expand n (.draw c r rgb)) ++ rest) :
    runSteps 2 s = .next { s with
      pix := writeCell s.pix (BitVec.ofInt 8 c).toNat (BitVec.ofInt 8 r).toNat rgb, pos := ⟨BitVec.ofInt 8 c, BitVec.ofInt 8 r⟩,
      inputs := rest } := by
  rw [runSteps_two (step_wrPosLine hi) (step_wrPixelLine (rest := rest) rfl), dataPos_append, dataPixel_setWidth]

/-- Settles O50: the cell at POS is cell (c, r) if that is in the grid, and otherwise none of the grid's. -/
theorem drawClipsAsTheSourceDoes : Obligations.DrawClipsAsTheSourceDoes := by
  intro s n c r rgb rest hi hc hc' hr hr'
  refine ⟨_, runSteps_draw hi, rfl, fun x y hx hy => ?_⟩
  have hcell : (InRange (BitVec.ofInt 8 c).toNat (BitVec.ofInt 8 r).toNat ∧
      x = (BitVec.ofInt 8 c).toNat ∧ y = (BitVec.ofInt 8 r).toNat) ↔ (x : Int) = c ∧ (y : Int) = r := by
    rw [← eq_toNat_ofInt_iff hx hc hc', ← eq_toNat_ofInt_iff hy hr hr']
    exact and_iff_right_of_imp fun ⟨hxc, hyr⟩ => ⟨hxc ▸ hx, hyr ▸ hy⟩
  rw [readCell_writeCell, if_congr hcell rfl rfl]

/-- Settles O51: the START of the same write takes its snapshot of the cleared store. -/
theorem blankStartsABlackFrame : Obligations.BlankStartsABlackFrame := by
  intro s n rest hi hb
  have hdec : decode (lineTxn (.wr .ctrl 3#32)) = .wrCtrl 3#32 := decode_txnWord_write ..
  have hstep := step_host (rest := rest) hi
  rw [hdec, effect_startAccepted (s := s.setInputs rest) (by decide) hb] at hstep
  exact ⟨_, hstep, rfl, readCell_black⟩

end Sys2Proof.Machine
end

section
/-! The transactions on the pixel store: the word of each, its whole next state and its frame (40_frame_store.md R80 to R85). -/

namespace Sys2Proof.Machine

/-- WE and OFF alone name the transaction (30_encoding.md R67); a write carries DATA. -/
theorem decode_of_fields {T : Txn} {we : Bool} {off : Offset} (hwe : T.getLsbD 37 = we) (hoff : T.extractLsb' 32 5 = off) :
    decode T = (slotOf off).instr we off (T.extractLsb' 0 32) := by
  rw [← hwe, ← hoff]
  exact decode_eq_instr T

theorem pixAtStart_of_clear {data : Word} (s : State) (h : dataClear data = true) : pixAtStart data s = Cells.black := if_pos h

theorem pixAtStart_of_not_clear {data : Word} (s : State) (h : dataClear data = false) : pixAtStart data s = s.pix := by
  rw [pixAtStart, h]
  rfl

/-- A CTRL write without a START request is its clear alone (40_frame_store.md R80, R81). -/
theorem effect_noStart {data : Word} (s : State) (hd : dataStart data = false) :
    effect (.wrCtrl data) s = { s with pix := pixAtStart data s } := by
  rw [effect_wrCtrl, hd]
  rfl

/-- A START request does not write PIX, so a CTRL write leaves what its clear leaves (R80). -/
theorem effect_wrCtrl_pix (data : Word) (s : State) : (effect (.wrCtrl data) s).pix = pixAtStart data s := by
  cases hd : dataStart data with
  | false => rw [effect_noStart s hd]
  | true => cases hb : s.busy with
    | false => rw [effect_startAccepted hd hb]
    | true => rw [effect_startDropped hd hb]

/-- Settles O6: PIX is as the clear left it, and DATA[0] and BUSY decide what else the write does. -/
theorem writeCtrlClearsThenStarts : Obligations.WriteCtrlClearsThenStarts := by
  refine ⟨fun T hwe hoff => decode_of_fields hwe hoff, fun data s => ⟨_, exec_eq_effect _ s, ?_⟩⟩
  rw [effect_wrCtrl_pix]
  refine ⟨fun hc c r _ _ => ?_, pixAtStart_of_not_clear s, effect_noStart s, effect_startDropped, effect_startAccepted⟩
  rw [pixAtStart_of_clear s hc, readCell_black]

/-- Settles O7: the next state is the state with a Black store, and clearing that store gives the same again. -/
theorem clearTouchesPixelStoreOnly : Obligations.ClearTouchesPixelStoreOnly := by
  intro data s t hc hd h
  have hclear (u : State) : exec (.wrCtrl data) u = .next { u with pix := Cells.black } := by
    rw [exec_eq_effect, effect_noStart u hd, pixAtStart_of_clear u hc]
  rw [hclear] at h
  cases h
  exact ⟨readCell_black, rfl, hclear _⟩

/-- Settles O10: the cell at POS has the value if POS names a cell, and otherwise none of the grid's cells is written. -/
theorem writePixelWritesTheCellAtPos : Obligations.WritePixelWritesTheCellAtPos := by
  refine ⟨fun T hwe hoff => decode_of_fields hwe hoff, fun data s => ⟨_, rfl, rfl, fun c r hc hr => ?_, fun hout => ?_⟩⟩
  · have hcell : InRange s.pos.col.toNat s.pos.row.toNat ∧ c = s.pos.col.toNat ∧ r = s.pos.row.toNat ↔
        c = s.pos.col.toNat ∧ r = s.pos.row.toNat :=
      and_iff_right_of_imp fun ⟨hcol, hrow⟩ => ⟨hcol ▸ hc, hrow ▸ hr⟩
    rw [State.setPix_pix, readCell_writeCell, if_congr hcell rfl rfl, dataPixel_eq]
  · rw [writeCell_of_not_inRange _ _ hout]
    rfl

/-- Settles O8: the two bytes of DATA, each as a number. -/
theorem writePosStoresBothBytes : Obligations.WritePosStoresBothBytes :=
  ⟨fun _ hwe hoff => decode_of_fields hwe hoff, fun data _ => ⟨_, rfl, dataPos_col_toNat data, dataPos_row_toNat data, rfl⟩⟩

/-- Settles O9: the response, as a number. -/
theorem readPosReturnsRowAndCol : Obligations.ReadPosReturnsRowAndCol :=
  ⟨fun _ hwe hoff => decode_of_fields hwe hoff, fun s => ⟨_, rfl, posWord_toNat s.pos⟩⟩

/-- RD PIXEL of a cell is the cell's 24 bits as a number (40_frame_store.md R85). -/
theorem pixelWord_toNat (v : Pixel) : (pixelWord v).toNat = v.toNat := BitVec.toNat_setWidth_of_le (by decide)

/-- Settles O11: zero-extension keeps the cell's value, and a POS that names no cell reads as a Black cell. -/
theorem readPixelReturnsTheCellAtPos : Obligations.ReadPixelReturnsTheCellAtPos := by
  refine ⟨fun T hwe hoff => decode_of_fields hwe hoff, fun s => ⟨_, rfl, fun _ => pixelWord_toNat _, fun hout => ?_⟩⟩
  rw [readCell_of_not_inRange _ hout]
  rfl

end Sys2Proof.Machine
end

section
/-! The serpentine order and the payload's bytes by cell and channel (41_serializer.md R90 to R96). -/

namespace Sys2Proof.Machine

theorem serpIndex_of_even {c : Nat} (r : Nat) (h : c % 2 = 0) : serpIndex c r = 8 * c + r := by rw [serpIndex, if_pos h]

theorem serpIndex_of_odd {c : Nat} (r : Nat) (h : c % 2 = 1) : serpIndex c r = 8 * c + (7 - r) := by rw [serpIndex, if_neg (by omega)]

theorem serpPos_of_even {p : Nat} (h : p / 8 % 2 = 0) : serpPos p = (p / 8, p % 8) := by simp only [serpPos, if_pos h]

theorem serpPos_of_odd {p : Nat} (h : p / 8 % 2 = 1) : serpPos p = (p / 8, 7 - p % 8) := by
  simp only [serpPos, if_neg (show ¬p / 8 % 2 = 0 by omega)]

theorem serpIndex_lt {c r : Nat} (hc : c < 32) (hr : r < 8) : serpIndex c r < 256 := by
  obtain h | h := Nat.mod_two_eq_zero_or_one c
  · rw [serpIndex_of_even r h]; omega
  · rw [serpIndex_of_odd r h]; omega

theorem serpPos_snd_lt (p : Nat) : (serpPos p).2 < 8 := by
  obtain h | h := Nat.mod_two_eq_zero_or_one (p / 8)
  · rw [serpPos_of_even h]; exact Nat.mod_lt p (by decide)
  · rw [serpPos_of_odd h]; exact Nat.sub_lt_succ 7 _

theorem serpIndex_serpPos (p : Nat) : serpIndex (serpPos p).1 (serpPos p).2 = p := by
  obtain h | h := Nat.mod_two_eq_zero_or_one (p / 8)
  · rw [serpPos_of_even h, serpIndex_of_even _ h]; omega
  · rw [serpPos_of_odd h, serpIndex_of_odd _ h]; omega

theorem serpPos_serpIndex (c : Nat) {r : Nat} (hr : r < 8) : serpPos (serpIndex c r) = (c, r) := by
  obtain h | h := Nat.mod_two_eq_zero_or_one c
  · rw [serpIndex_of_even r h, serpPos_of_even (by omega), Prod.mk.injEq]; omega
  · rw [serpIndex_of_odd r h, serpPos_of_odd (by omega), Prod.mk.injEq]; omega

/-- Pixel group SerpIndex(c, r) of the payload holds cell (c, r), channel by channel (R91 to R94). -/
theorem serialize_getElem?_serpIndex (S : Cells) {c r m : Nat} (hc : c < 32) (hr : r < 8) (hm : m < 3) :
    (serialize S)[3 * serpIndex c r + m]? = some (channel (readCell S c r) m) := by
  have hlt := serpIndex_lt hc hr
  rw [serialize_getElem? S (by omega), physByte, Nat.mul_add_div (by decide), Nat.div_eq_of_lt hm, Nat.add_zero, Nat.mul_add_mod,
    Nat.mod_eq_of_lt hm, serpPos_serpIndex c hr]

/-- Settles O39: the three channels of a cell's pixel group. -/
theorem payloadIsGreenRedBlueInSerpentineOrder : Obligations.PayloadIsGreenRedBlueInSerpentineOrder := by
  intro S
  refine ⟨serialize_length S, fun c r hc hr => ?_⟩
  have hgroup {m : Nat} (hm : m < 3) := serialize_getElem?_serpIndex S hc hr hm
  exact ⟨hgroup (m := 0) (by decide), hgroup (m := 1) (by decide), hgroup (m := 2) (by decide)⟩

/-- Settles O40: both pixel groups hold row 7 - k, one of each column. -/
theorem oddColumnReversesEvenColumn : Obligations.OddColumnReversesEvenColumn := by
  intro S c heven hc hsame k m hk hm
  have hrow : 7 - k < 8 := by omega
  have hodd : 24 * (c + 1) + 3 * k + m = 3 * serpIndex (c + 1) (7 - k) + m := by
    rw [serpIndex_of_odd _ (by omega)]
    omega
  have hev : 24 * c + 3 * (7 - k) + m = 3 * serpIndex c (7 - k) + m := by
    rw [serpIndex_of_even _ heven]
    omega
  rw [hodd, hev, serialize_getElem?_serpIndex S hc hrow hm, serialize_getElem?_serpIndex S (by omega) hrow hm, hsame _ hrow]

/-- Settles O38: each map undoes the other within the two ranges. -/
theorem serpentineMapsAreInverse : Obligations.SerpentineMapsAreInverse :=
  ⟨fun p hp => ⟨Nat.div_lt_of_lt_mul hp, serpPos_snd_lt p, serpIndex_serpPos p⟩,
    fun c _ hc hr => ⟨rfl, serpIndex_lt hc hr, serpPos_serpIndex c hr⟩⟩

end Sys2Proof.Machine
end

section
/-! A frame's bytes in closed form, and the slices of a frame (42_protocol_encoder.md R105, R108). -/

namespace Sys2Proof.Machine

/-- The closed form in each part of the frame: half `n % 2` of a symbol, and then the latch gap (R108). -/
theorem frame_getElem? (pad : Nat) (S : Cells) {n : Nat} (hn : n < frameLen pad) : (frame pad S)[n]? = some (outByte S n) := by
  by_cases h : n < 12288
  · have hhalf : n % 16 % 2 = n % 2 := Nat.mod_mod_of_dvd n (by decide)
    rw [frame_getElem?_encoded pad S h, expandByte_getElem? _ _ (Nat.mod_lt n (by decide)), hhalf, outByte, if_neg (Nat.not_le.2 h)]
  · have hgap : 12288 ≤ n := Nat.le_of_not_lt h
    rw [frame_getElem?_gap pad S hgap, if_pos (show n < 12288 + pad from hn), outByte, if_pos hgap]

/-- Settles O43: the frame's byte in each part, and the definition of OutByte written out. -/
theorem outByteIsTheFrameByte : Obligations.OutByteIsTheFrameByte := fun pad S _ hn => ⟨frame_getElem? pad S hn, rfl⟩

/-- The bytes that EMIT hands over one by one are a slice of the frame. -/
theorem frameBytes_eq_take_drop (pad : Nat) (S : Cells) {c n : Nat} (h : c + n ≤ frameLen pad) :
    frameBytes S c n = ((frame pad S).drop c).take n := by
  refine List.ext_getElem? fun k => ?_
  rw [List.getElem?_take, List.getElem?_drop, frameBytes, List.getElem?_map]
  by_cases hk : k < n
  · rw [if_pos hk, frame_getElem? pad S (by omega), List.getElem?_range' hk, Nat.one_mul]
    rfl
  · rw [if_neg hk, List.getElem?_eq_none (by simpa using hk)]
    rfl

end Sys2Proof.Machine
end

section
/-! One step and the sink: the byte handed over, and the steps that hand over none (42_protocol_encoder.md R106, R107, R111). -/

namespace Sys2Proof.Machine

/-- Settles O31: EMIT's two cases, with the byte as the frame's. -/
theorem emitterHandsOverTheFrameByte : Obligations.EmitterHandsOverTheFrameByte := by
  intro s rest hi hb hc
  have hstep := step_emit hi hb
  refine ⟨outByte s.snap s.cur, _, frame_getElem? _ _ hc, hstep, fun hlast => ?_, fun hmid => ?_⟩
  · rw [step_last_byte hi hb hlast, Host.Outcome.next.injEq] at hstep
    have hzero : outByte s.snap s.cur = 0x00#8 := hlast ▸ outByte_last s.snap
    rw [← hstep, hzero, BitVec.ofNat_add, BitVec.ofNat_toNat, BitVec.setWidth_eq]
    exact ⟨rfl, rfl⟩
  · rcases emit_cases Config.padLen (s.setInputs rest) with ⟨hlast, -⟩ | ⟨-, e⟩
    · exact absurd hlast hmid
    · exact e

/-- Settles O30: EMIT needs both BUSY and the acceptance, and an empty list of inputs is an idle step. -/
theorem noEmitterStepWithoutBusyAndSink : Obligations.NoEmitterStepWithoutBusyAndSink := by
  intro s a rest
  refine ⟨fun hi hno => ?_, step_nil⟩
  rw [step_sink hi]
  rcases sinkChoice_cases Config.padLen a (s.setInputs rest) with ⟨hb, ha, -⟩ | ⟨-, e⟩
  · rw [State.setInputs_busy] at hb
    simp [hb, ha] at hno
  · rw [e]
    rfl

/-- No transaction appends to OUT (R111). -/
theorem TxnEffect.out_eq {i : Instr} {s t : State} (he : TxnEffect s i t) : t.out = s.out := by
  cases he <;> rfl

/-- Settles O32: of the agents that move in a step without a reset, EMIT alone writes OUT. -/
theorem onlyTheEmitterAppendsToOut : Obligations.OnlyTheEmitterAppendsToOut := by
  intro s t h hr
  cases stepEffect_of_step h hr with
  | host i rest hp he => exact ⟨fun ⟨_, hs⟩ => absurd hs (hp.head?_ne_sink true), fun _ => he.out_eq⟩
  | emit rest hb hs => exact ⟨fun _ => ⟨_, emit_out ..⟩, fun hn => absurd ⟨hb, hs⟩ hn⟩
  | idle rest hp hs =>
    refine ⟨fun ⟨hb, hs'⟩ => ?_, fun _ => rfl⟩
    rcases hs with hb' | hs
    · simp [hb] at hb'
    · exact absurd hs' hs

end Sys2Proof.Machine
end

section
/-! Whole frames: what is handed over until the last byte, and with it (42_protocol_encoder.md R107, R109). -/

namespace Sys2Proof.Machine

/-- Settles O46: the bytes handed over are the frame's next ones. -/
theorem frameInFlightAdvancesByAcceptedBytes : Obligations.FrameInFlightAdvancesByAcceptedBytes := by
  intro s pre rest hi hr hb hc
  obtain ⟨t, ht, hadv, hrest⟩ := runSteps_advances hi hr hb hc
  refine ⟨t, ht, hadv.busy, hadv.cur, hadv.snap, hrest, hadv.frameCount, ?_⟩
  rw [hadv.out, frameBytes_eq_take_drop Config.padLen _ (by omega)]

/-- The run to the acceptance of the last byte completes the frame (R106, R107). -/
theorem runSteps_completes {s : State} {pre rest : List Input} (hi : s.inputs = pre ++ .sink true :: rest) (hr : NoReset pre)
    (hb : s.busy = true) (hc : s.cur + acceptCount pre + 1 = frameLen Config.padLen) :
    ∃ t, runSteps (pre.length + 1) s = .next t ∧ t.out = s.out ++ (frame Config.padLen s.snap).drop s.cur ∧ t.busy = false ∧
      t.cur = 0 ∧ t.frameCount = s.frameCount + 1#32 ∧ t.inputs = rest := by
  obtain ⟨u, hu, hadv, hin⟩ := runSteps_advances hi hr hb (by omega)
  have hlast : u.cur = frameLen Config.padLen - 1 := by rw [hadv.cur]; omega
  have hstep := step_last_byte hin hadv.busy hlast
  refine ⟨_, (runSteps_add _ 1 hu).trans (runSteps_one hstep), ?_, rfl, rfl, congrArg (· + 1#32) hadv.frameCount, rfl⟩
  calc u.out ++ [0x00#8]
      = s.out ++ (frameBytes s.snap s.cur (acceptCount pre) ++ frameBytes s.snap (s.cur + acceptCount pre) 1) := by
        rw [hadv.out, List.append_assoc, frameBytes_one, ← hadv.cur, hlast, outByte_last]
    _ = s.out ++ (frame Config.padLen s.snap).drop s.cur := by
        rw [← frameBytes_add, frameBytes_eq_take_drop Config.padLen _ (by omega),
          List.take_of_length_le (by rw [List.length_drop, frame_length]; omega)]

/-- Acceptance number `n`, counted from 0, splits the inputs. -/
theorem exists_split_at_acceptance {l : List Input} {n : Nat} (h : n < acceptCount l) :
    ∃ init post, l = init ++ .sink true :: post ∧ acceptCount init = n := by
  induction l generalizing n with
  | nil => simp [acceptCount] at h
  | cons i l ih =>
    by_cases hi : i = .sink true
    · subst hi
      cases n with
      | zero => exact ⟨[], l, rfl, rfl⟩
      | succ n =>
        obtain ⟨init, post, rfl, hn⟩ := ih (n := n) (by simpa [acceptCount] using h)
        exact ⟨.sink true :: init, post, rfl, by simpa [acceptCount] using hn⟩
    · obtain ⟨init, post, rfl, hn⟩ := ih (n := n) (by simpa [acceptCount, hi] using h)
      exact ⟨i :: init, post, rfl, by simpa [acceptCount, hi] using hn⟩

/-- Settles O49: the acceptance of the frame's last byte is among the inputs. -/
theorem frameCompletesWhenTheSinkAccepts : Obligations.FrameCompletesWhenTheSinkAccepts := by
  intro s pre rest hi hr hb hc hlen
  obtain ⟨init, post, rfl, hn⟩ := exists_split_at_acceptance (l := pre) (n := frameLen Config.padLen - 1 - s.cur) (by omega)
  obtain ⟨t, ht, hout, hbusy, -, hcount, -⟩ := runSteps_completes (hi.trans (List.append_assoc ..))
    (fun hmem => hr (List.mem_append_left _ hmem)) hb (by omega)
  exact ⟨init.length + 1, t, by simp, ht, hbusy, hcount, hout⟩

/-- A write of CTRL with START, made while no frame is in flight, begins the frame of its snapshot at its first byte (R100). -/
theorem step_startAccepted {s : State} {txn : Txn} {data : Word} {rest : List Input} (hi : s.inputs = .host txn :: rest)
    (hdec : decode txn = .wrCtrl data) (hd : dataStart data = true) (hb : s.busy = false) :
    ∃ u, step s = .next u ∧ u.inputs = rest ∧ u.busy = true ∧ u.cur = 0 ∧ u.snap = pixAtStart data s ∧
      u.frameCount = s.frameCount ∧ u.out = s.out := by
  refine ⟨_, step_host hi, ?_⟩
  rw [hdec, effect_startAccepted (s := s.setInputs rest) hd hb]
  exact ⟨rfl, rfl, rfl, rfl, rfl, rfl⟩

/-- Settles O47: the frame in flight after the START is its snapshot's, from the first byte on. -/
theorem acceptedStartDeliversItsFrame : Obligations.AcceptedStartDeliversItsFrame := by
  intro s txn data pre rest hi hdec hd hb hr hlen
  obtain ⟨u, hu, hin, hbusy, hcur, hsnap, hcount, hout⟩ := step_startAccepted hi hdec hd hb
  have hrun (k : Nat) : runSteps (1 + k) s = runSteps k u := runSteps_add 1 k (runSteps_one hu)
  constructor
  · intro k hk
    have hle : acceptCount (pre.take k) ≤ acceptCount pre := (List.take_sublist k pre).count_le _
    have hsplit : u.inputs = pre.take k ++ (pre.drop k ++ .sink true :: rest) := by
      rw [hin, ← List.append_assoc, List.take_append_drop]
    obtain ⟨t, ht, hadv, -⟩ := runSteps_advances hsplit (fun hmem => hr (List.mem_of_mem_take hmem)) hbusy (by omega)
    rw [List.length_take_of_le hk] at ht
    refine ⟨t, (hrun k).trans ht, hadv.busy, hadv.frameCount.trans hcount, ?_⟩
    rw [hadv.out, hout, hsnap, hcur, frameBytes_eq_take_drop Config.padLen _ (by omega), List.drop_zero]
  · obtain ⟨t, ht, hout', hbusy', hcur', hcount', hrest⟩ := runSteps_completes hin hr hbusy (by omega)
    rw [hout, hsnap, hcur, List.drop_zero] at hout'
    rw [hcount] at hcount'
    exact ⟨t, (Nat.add_assoc .. ▸ hrun _).trans ht, hout', hbusy', hcur', hcount', hrest⟩

end Sys2Proof.Machine
end

section
/-! Decoding: a frame gives back its payload, and a payload its pixel array (42_protocol_encoder.md R112). -/

namespace Sys2Proof.Machine

/-- A byte is the sum of its bits, as Decode adds them up (R112). -/
theorem foldl_add_bits (x : Byte) :
    ((List.range 8).map fun j => if x.getLsbD (7 - j) then 1#8 <<< (7 - j) else 0#8).foldl (· + ·) 0#8 = x := by
  revert x
  decide

/-- The first byte of a symbol tells the bit (R101, R112). -/
theorem decodedByte_of_symbols {F : List Byte} {i : Nat} {x : Byte}
    (h : ∀ j < 8, F[16 * i + 2 * j]? = some (if x.getLsbD (7 - j) then 0xFF#8 else 0xF0#8)) : decodedByte F i = x := by
  have hbit : ∀ j ∈ List.range 8, (if F.getD (16 * i + 2 * j) 0#8 = 0xFF#8 then 1#8 <<< (7 - j) else 0#8) =
      if x.getLsbD (7 - j) then 1#8 <<< (7 - j) else 0#8 := by
    intro j hj
    rw [List.getD_eq_getElem?_getD, h j (List.mem_range.1 hj), Option.getD_some]
    cases x.getLsbD (7 - j) <;> rfl
  rw [decodedByte, List.map_congr_left hbit, foldl_add_bits]

/-- Decode undoes Frame: the even bytes of bit group i carry byte i of the payload (R70, R112). -/
theorem decodePayload_frame (pad : Nat) (S : Cells) : decodePayload (frame pad S) = serialize S := by
  refine List.map_congr_left fun i hi => decodedByte_of_symbols fun j hj => ?_
  rw [frame_getElem?_group pad S (List.mem_range.1 hi) (by omega)]
  exact (expandByte_getElem?_symbol _ hj).1

theorem decodedByte_expandByte (x : Byte) : decodedByte (expandByte x) 0 = x :=
  decodedByte_of_symbols fun j hj => by
    rw [Nat.mul_zero, Nat.zero_add]
    exact (expandByte_getElem?_symbol x hj).1

theorem expandByte_injective : Function.Injective expandByte :=
  Function.LeftInverse.injective (g := fun F => decodedByte F 0) decodedByte_expandByte

/-- The encoding is injective, since the bit groups are and have one length (R103). -/
theorem encodePayload_injective : Function.Injective encodePayload := by
  intro P Q h
  have hlen : P.length = Q.length := by
    have := congrArg List.length h
    rw [encodePayload_length, encodePayload_length] at this
    omega
  induction P generalizing Q with
  | nil => exact (List.eq_nil_of_length_eq_zero hlen.symm).symm
  | cons x P ih =>
    obtain ⟨y, Q, rfl⟩ := List.exists_cons_of_length_eq_add_one hlen.symm
    obtain ⟨hx, hP⟩ := List.append_inj h (by rw [expandByte_length, expandByte_length])
    rw [expandByte_injective hx, ih hP (Nat.succ.inj hlen)]

/-- A cell is its three channels (10_state.md R16). -/
theorem red_append_green_append_blue (v : Pixel) : Pixel.red v ++ Pixel.green v ++ Pixel.blue v = v := by
  have hhigh : Pixel.red v ++ Pixel.green v = v.extractLsb' 8 16 := BitVec.extractLsb'_append_extractLsb'_eq_extractLsb' rfl
  rw [hhigh]
  exact BitVec.extractLsb'_append_extractLsb' (len := 8) (w := 16)

/-- Cells of the same channels are the same cell. -/
theorem eq_of_channel_eq {v w : Pixel} (h : ∀ m < 3, channel v m = channel w m) : v = w := by
  have hgreen : Pixel.green v = Pixel.green w := h 0 (by decide)
  have hred : Pixel.red v = Pixel.red w := h 1 (by decide)
  have hblue : Pixel.blue v = Pixel.blue w := h 2 (by decide)
  rw [← red_append_green_append_blue v, hgreen, hred, hblue, red_append_green_append_blue]

/-- A cell put together of three channels has them, in the order of emission (R92). -/
theorem channel_append (f : Nat → Byte) {m : Nat} (hm : m < 3) : channel (f 1 ++ f 0 ++ f 2) m = f m := by
  match m with
  | 0 => exact (BitVec.extractLsb'_append_eq_of_le (by decide)).trans BitVec.extractLsb'_append_eq_right
  | 1 => exact (BitVec.extractLsb'_append_eq_of_le (by decide)).trans BitVec.extractLsb'_append_eq_left
  | 2 => exact BitVec.extractLsb'_append_eq_right

/-- The channels of a cell of the array that a payload came from are the bytes of its pixel group (R91 to R94). -/
theorem channel_readCell_deserialize (P : List Byte) {c r m : Nat} (h : InRange c r) (hm : m < 3) :
    channel (readCell (deserialize P) c r) m = P.getD (3 * serpIndex c r + m) 0#8 := by
  have hr : r < 8 := h.2
  have hcol : (8 * c + r) / 8 = c := by omega
  have hrow : (8 * c + r) % 8 = r := by omega
  rw [readCell_of_inRange _ h, deserialize, Vector.getElem_ofFn]
  simp only [hcol, hrow]
  exact channel_append (fun m => P.getD (3 * serpIndex c r + m) 0#8) hm

/-- Each cell is put together again of its three payload bytes (R91, R112). -/
theorem deserialize_serialize (S : Cells) : deserialize (serialize S) = S := by
  refine Cells.ext_readCell fun c r h => eq_of_channel_eq fun m hm => ?_
  have ⟨hc, hr⟩ := h
  rw [channel_readCell_deserialize _ h hm, List.getD_eq_getElem?_getD, serialize_getElem?_serpIndex S hc hr hm, Option.getD_some]

/-- Byte i of a payload is channel i mod 3 of the cell that pixel i div 3 comes from (R93, R112). -/
theorem serialize_deserialize {P : List Byte} (hP : P.length = 768) : serialize (deserialize P) = P := by
  refine List.ext_getElem?' fun i hi => ?_
  rw [serialize_length, hP, Nat.max_self] at hi
  have hcell : InRange (serpPos (i / 3)).1 (serpPos (i / 3)).2 := ⟨show i / 3 / 8 < 32 by omega, serpPos_snd_lt _⟩
  rw [serialize_getElem? _ hi, physByte, channel_readCell_deserialize P hcell (Nat.mod_lt i (by decide)), serpIndex_serpPos,
    Nat.div_add_mod, List.getD_eq_getElem P _ (hP ▸ hi), List.getElem?_eq_getElem]

/-- Settles O45: Decode and the array of a payload undo the encoding and Serialize, and Serialize has an inverse on both sides. -/
theorem frameDeterminesThePixels : Obligations.FrameDeterminesThePixels :=
  ⟨decodePayload_frame, deserialize_serialize, fun _ => serialize_deserialize, fun _ _ h => encodePayload_injective h⟩

end Sys2Proof.Machine
end

section
/-! The status registers and the offsets without a register: the word of each transaction and its whole next state
(43_status_registers.md R120 to R130). -/

namespace Sys2Proof.Machine

/-- The flag an acknowledgement leaves, by its bit of DATA (43_status_registers.md R122). -/
theorem flag_acknowledged (flag clr : Bool) : (clr = true → (flag && !clr) = false) ∧ (clr = false → (flag && !clr) = flag) := by
  cases clr <;> simp

/-- PAD_LEN's range (00_scope.md R6). -/
theorem padLen_range : 1 ≤ Config.padLen ∧ Config.padLen ≤ 65535 :=
  ⟨Nat.succ_pos _, Config.padChoice.isLt⟩

/-- The two misaligned rows, told apart by OFF[0] (30_encoding.md R67). -/
theorem slotOf_of_misaligned {off : Offset} (h : off.getLsbD 0 = true ∨ off.getLsbD 1 = true) :
    slotOf off = if off.getLsbD 0 then .mis1 else .mis2 := by
  cases h0 : off.getLsbD 0 with
  | true => exact slotOf_of_isOdd h0
  | false =>
    have h1 : off.getLsbD 1 = true := h.resolve_left (Bool.eq_false_iff.mp h0)
    exact slotOf_of_isHalf (by rw [Offset.isHalf, h0, h1]; rfl)

/-- Settles O12: the response is 0 in every state. -/
theorem readCtrlReturnsZero : Obligations.ReadCtrlReturnsZero :=
  ⟨fun _ hwe hoff => decode_of_fields hwe hoff, fun _ => rfl⟩

/-- Settles O13: the response is the status word, bit by bit. -/
theorem readStatusReturnsTheThreeFlags : Obligations.ReadStatusReturnsTheThreeFlags := by
  refine ⟨fun T hwe hoff => decode_of_fields hwe hoff, fun s => ⟨statusWord s, rfl,
    getLsbD_statusWord s 0, getLsbD_statusWord s 1, getLsbD_statusWord s 2, fun k hk => ?_⟩⟩
  rw [getLsbD_statusWord, if_neg (by omega), if_neg (by omega), if_neg (by omega)]

/-- Settles O14: the next state is the acknowledged state, and DATA[1] and DATA[2] each decide their flag. -/
theorem writeStatusClearsNamedFlags : Obligations.WriteStatusClearsNamedFlags := by
  refine ⟨fun T hwe hoff => decode_of_fields hwe hoff, fun data s => ⟨_, congrArg Host.Outcome.next (acknowledge_eq data s), rfl, ?_⟩⟩
  obtain ⟨hsdClear, hsdKeep⟩ := flag_acknowledged s.sd (dataClrSd data)
  obtain ⟨hbaClear, hbaKeep⟩ := flag_acknowledged s.ba (dataClrBa data)
  exact ⟨hsdClear, hsdKeep, hbaClear, hbaKeep⟩

/-- Settles O15: the response is the counter itself. -/
theorem readFrameCountReturnsCounter : Obligations.ReadFrameCountReturnsCounter :=
  ⟨fun _ hwe hoff => decode_of_fields hwe hoff, fun _ => rfl⟩

/-- Settles O16: the response does not mention the state, and sixteen bits hold the parameter. -/
theorem readPadLenReturnsParameter : Obligations.ReadPadLenReturnsParameter := by
  refine ⟨fun T hwe hoff => decode_of_fields hwe hoff, padLenWord Config.padLen, padLenWord_toNat, ?_⟩
  obtain ⟨hpos, hle⟩ := padLen_range
  rw [padLenWord_toNat]
  exact ⟨hpos, hle, fun s => rfl⟩

/-- Settles O17: either write is the bad-access event alone. -/
theorem writeToReadOnlyRegisterSetsBadAccess : Obligations.WriteToReadOnlyRegisterSetsBadAccess :=
  ⟨fun _ hwe hoff => decode_of_fields hwe hoff, fun _ hwe hoff => decode_of_fields hwe hoff, fun _ _ => ⟨rfl, rfl⟩⟩

/-- Settles O18: both offsets are of the reserved row, whose read and write are the bad read and the bad access. -/
theorem reservedOffsetSetsBadAccess : Obligations.ReservedOffsetSetsBadAccess := by
  refine ⟨fun T off hres hoff => ?_, fun _ _ _ => ⟨rfl, rfl⟩⟩
  have hrow : slotOf off = .rsvd := slotOf_of_isReserved (by simpa [Offset.isReserved] using hres)
  rw [decode_of_fields rfl hoff, hrow, Slot.instr]

/-- Settles O19: OFF[0] says which misaligned row the offset is of, and in both a read is the bad read and a write the bad access. -/
theorem misalignedOffsetSetsBadAccess : Obligations.MisalignedOffsetSetsBadAccess := by
  refine ⟨fun T off hmis hoff => ?_, fun _ _ _ => ⟨rfl, rfl, rfl, rfl⟩⟩
  rw [decode_of_fields rfl hoff, slotOf_of_misaligned hmis]
  cases off.getLsbD 0 <;> cases T.getLsbD 37 <;> rfl

end Sys2Proof.Machine
end

section
/-! No exception, and at most one event per transaction (60_exceptions.md R140, R143). -/

namespace Sys2Proof.Machine

/-- Settles O22: each choice of the environment has its next state, and a host word has that of the transaction it decodes to. -/
theorem everyStepAnswersNext : Obligations.EveryStepAnswersNext := by
  intro s
  cases hi : s.inputs with
  | nil => exact ⟨_, step_nil hi⟩
  | cons i rest =>
    cases i with
    | host txn => exact ⟨_, step_host hi⟩
    | sink a => exact ⟨_, step_sink hi⟩
    | rst => exact ⟨_, step_rst hi⟩

/-- What a transaction's answer can be, from the answer itself. -/
theorem txnEffect_of_exec {i : Instr} {s t : State} (h : exec i s = .next t) : TxnEffect s i t := by
  rw [exec_eq_effect] at h
  cases h
  exact txnEffect_effect i s

/-- Settles O23: SD rises only by a START request and BA only by a bad access, and no transaction is both. -/
theorem transactionReportsAtMostOneEvent : Obligations.TransactionReportsAtMostOneEvent := by
  rintro i s t h hsd hba ⟨hsd', hba'⟩
  have he : TxnEffect s i t := txnEffect_of_exec h
  obtain ⟨-, hstart⟩ := he.startDropped_of_sd hsd hsd'
  exact (he.reportsBadAccess_of_ba hba hba').not_requestsStart hstart

end Sys2Proof.Machine
end

section
/-! The values reset gives, at the start and by the reset input (70_reset_and_hazards.md R160 to R162). -/

namespace Sys2Proof.Machine

/-- What the reset of a state shares with the state after reset: all but SNAP (R17, U3), the coming inputs and the count of resets (log 7). -/
theorem resetAction_eq (s : State) : resetAction s =
    { State.reset with snap := (resetAction s).snap, inputs := s.inputs, freeCount := (resetAction s).freeCount } := rfl

/-- Settles O34: PIX is Black after reset, and every other element is the constant its reset value names. -/
theorem resetLeavesTheStatedValues : Obligations.ResetLeavesTheStatedValues :=
  ⟨readCell_black, State.reset_cur, State.reset_busy, State.reset_sd, State.reset_ba, State.reset_frameCount, State.reset_pos,
    State.reset_out⟩

/-- Settles O35: the step is the reset of the state whose input has been taken, whatever that state is. -/
theorem resetInputGivesTheResetValues : Obligations.ResetInputGivesTheResetValues := fun s rest hrst =>
  ⟨resetAction (s.setInputs rest), step_rst hrst, resetAction_eq (s.setInputs rest)⟩

end Sys2Proof.Machine
end
